-- ==== Sys2Proof/Word.lean ====
section
/-! DEFINITION. The word types of GAC's ports and registers (30_encoding.md R86, 00_scope.md R11). -/

namespace Sys2Proof

/-- One frame-buffer element: G in bits 23:16, R in bits 15:8, B in bits 7:0 (20_memory.md R63). -/
abbrev Pixel := BitVec 24

/-- One LED command word, `led_cmd` (30_encoding.md R88). -/
abbrev LedWord := BitVec 48

/-- One latch operation, `latch_op` (30_encoding.md R97). -/
abbrev LatchWord := BitVec 2

/-- One tone request as one value, frequency in bits 39:24, duration in 23:8, volume in 7:0 (R99). -/
abbrev ToneWord := BitVec 40

/-- One display request as one value, screen in bits 19:16, score in 15:0 (R100). -/
abbrev DispWord := BitVec 20

/-- The status-LED outputs as one value, r in bits 20:14, g in 13:7, b in 6:0 (R102). -/
abbrev SledWord := BitVec 21

/-- A value of the sequencer's step register `upc` (10_state.md R45). -/
abbrev StepCode := BitVec 6

/-- A value of the microsecond timer or a timestamp of it (10_state.md R37, R43). -/
abbrev Micros := BitVec 32

end Sys2Proof
end

