-- ==== Sys2Proof/Config.lean ====
section
/-! DEFINITION. What one implementation of GAC fixes (00_scope.md R9, R10, the strap of 10_state.md R29),
the colours (R12), and the free values: constants without a body, of which nothing can be proved.

A `Config` is a field of `State` that no step changes (log 2), so a statement for every state holds for
every configuration. -/

namespace Sys2Proof

/-- The colour enumeration; 3 is not a colour (00_scope.md R12). -/
inductive Colour where
  | red | green | blue
deriving DecidableEq, Repr

/-- Which flag pair the latch reports as A and B (00_scope.md R10, 41_input_latch.md R174). -/
inductive LatchMode where
  | sticky | level
deriving DecidableEq, Repr

/-- The implementation parameters of R9 and R10 and the strap of R29. -/
structure Config where
  /-- `N`, the length of the frame buffer. -/
  pixels : Nat
  /-- `POS_RED`, `POS_GREEN`, `POS_BLUE`, frame-buffer indices in the 16-bit index field. -/
  posRed : BitVec 16
  posGreen : BitVec 16
  posBlue : BitVec 16
  /-- `LED_LEVEL`, the channel intensity of a lit position. -/
  ledLevel : BitVec 8
  /-- `CLK_PER_US`, clock cycles per microsecond. -/
  clkPerUs : Nat
  /-- `SYM_CYCLES`, cycles per wire symbol. -/
  symCycles : Nat
  /-- `T0H_CYCLES`, `T1H_CYCLES`, the high times of a 0 and of a 1 symbol. -/
  t0hCycles : Nat
  t1hCycles : Nat
  /-- `RESET_CYCLES`, the low hold after a frame. -/
  resetCycles : Nat
  /-- `VOL_SUCCESS`, `VOL_FAIL`. -/
  volSuccess : BitVec 8
  volFail : BitVec 8
  /-- `SLED_PCT_GREEN`, `SLED_PCT_RED`. -/
  pctGreen : BitVec 7
  pctRed : BitVec 7
  /-- `SYNC_STAGES` (default 2, R10). -/
  syncStages : Nat := 2
  /-- `LATCH_MODE` (default STICKY, R10). -/
  latchMode : LatchMode := .sticky
  /-- `CLEAR_FLAGS_AT_WINDOW` (default false, R10). -/
  clearFlagsAtWindow : Bool := false
  /-- The strap `led_chan_avail`, a constant of the launch (10_state.md R29; log 4). -/
  ledChanAvail : Bool
deriving DecidableEq, Repr

/-- The constraints of 00_scope.md R9 and R10; the two bounds by 2^32 are DEDUCED from the width of `cnt`
(10_state.md R27; log 20). -/
abbrev Config.Valid (c : Config) : Prop :=
  (1 ≤ c.pixels ∧ c.pixels ≤ 65535) ∧
  (c.posRed ≠ c.posGreen ∧ c.posGreen ≠ c.posBlue ∧ c.posRed ≠ c.posBlue) ∧
  (c.posRed.toNat < c.pixels ∧ c.posGreen.toNat < c.pixels ∧ c.posBlue.toNat < c.pixels) ∧
  1 ≤ c.ledLevel.toNat ∧ 1 ≤ c.clkPerUs ∧
  (3 ≤ c.symCycles ∧ c.symCycles ≤ 2 ^ 32) ∧
  (1 ≤ c.t0hCycles ∧ c.t0hCycles < c.t1hCycles ∧ c.t1hCycles < c.symCycles) ∧
  (1 ≤ c.resetCycles ∧ c.resetCycles ≤ 2 ^ 32) ∧
  (c.pctGreen.toNat ≤ 100 ∧ c.pctRed.toNat ≤ 100) ∧
  2 ≤ c.syncStages

/-- The configuration of `State.reset`: TC-G of 92_eei_decisions.md, which leaves the volumes and the
percentages symbolic. DESIGN CHOICE, unsafe (log 1): no statement rests on it. -/
def Config.launch : Config :=
  { pixels := 25, posRed := 13, posGreen := 11, posBlue := 12, ledLevel := 0x20, clkPerUs := 1,
    symCycles := 3, t0hCycles := 1, t1hCycles := 2, resetCycles := 50,
    volSuccess := 8, volFail := 2, pctGreen := 50, pctRed := 50, ledChanAvail := true }

/-- FREE VALUE (log 3): `rst` in the cycle of this index. -/
opaque Config.freeRst : Nat → Bool

/-- FREE VALUE (log 3; 41_input_latch.md R165): `sample_A` at the edge ending the cycle of this index. -/
opaque Config.freeSampleA : Nat → Bool

/-- FREE VALUE (log 3; 41_input_latch.md R165): `sample_B` at the edge ending the cycle of this index. -/
opaque Config.freeSampleB : Nat → Bool

/-- FREE VALUE (log 3; 42_collaborators.md R202): `rnd_val` in the cycle of this index. -/
opaque Config.freeRnd : Nat → BitVec 2

/-- FREE VALUE (log 3; 42_collaborators.md R192): `tone_ready` in the cycle of this index. -/
opaque Config.freeToneReady : Nat → Bool

/-- FREE VALUE (log 3; 42_collaborators.md R197): `disp_ready` in the cycle of this index. -/
opaque Config.freeDispReady : Nat → Bool

/-- FREE VALUE (log 7; 93_implementation_defined.md item 4): what the storage of a frame-buffer element
that has no value holds, by index. -/
opaque Config.freePixel : Nat → Pixel

end Sys2Proof
end

