-- ==== Sys2Proof/Syntax.lean ====
section
/-! DEFINITION. The instructions of GAC: one constructor per row of spec/opcode_table.json, and the LED
commands as the LED driver's command port takes them. -/

namespace Sys2Proof

/-- A command as the LED driver executes it after decoding `led_cmd` (30_encoding.md R90). -/
inductive LedCmd where
  | nop
  | init
  | setPixel (idx : BitVec 16) (r g b : BitVec 8)
  | clear
  | flush
  /-- Any word with `wf` false (30_encoding.md R91, R92). -/
  | illegal
deriving DecidableEq, Repr

/-- One constructor per row of the opcode table. -/
inductive Instr where
  /-- `NOP` (R133). -/
  | nop
  /-- `INIT` (R125). -/
  | init
  /-- `SET_PIXEL` (R130). -/
  | setPixel (idx : BitVec 16) (r g b : BitVec 8)
  /-- `CLEAR` (R134). -/
  | clear
  /-- `FLUSH` (R136). -/
  | flush
  /-- `LCMD_RESERVED` (R132): any word with `wf` false: a reserved opcode, a nonzero `rsv`, a nonzero operand field where none is allowed. -/
  | lcmdReserved (w : LedWord)
  /-- `LATCH_NONE` (R174). -/
  | latchNone
  /-- `LATCH_CLEAR_ALL` (R175). -/
  | latchClearAll
  /-- `LATCH_RESERVED` (R176): codes `10` and `11`; `low` is bit 0. -/
  | latchReserved (low : Bool)
  /-- `TONE_RW_T1` (R263). -/
  | toneRwT1 (vol : BitVec 8)
  /-- `TONE_RW_T2` (R264). -/
  | toneRwT2 (vol : BitVec 8)
  /-- `TONE_RW_T3` (R265). -/
  | toneRwT3 (vol : BitVec 8)
  /-- `TONE_RES_T1` (R273). -/
  | toneResT1 (vol : BitVec 8)
  /-- `TONE_RES_T2` (R274). -/
  | toneResT2 (vol : BitVec 8)
  /-- `DISP_PROMPT` (R235). -/
  | dispPrompt (score : BitVec 16)
  /-- `DISP_LEGEND` (R241). -/
  | dispLegend (score : BitVec 16)
  /-- `DISP_VERDICT_LOW` (R285). -/
  | dispVerdictLow (score : BitVec 16)
  /-- `DISP_VERDICT_MED` (R285). -/
  | dispVerdictMed (score : BitVec 16)
  /-- `DISP_VERDICT_HIGH` (R285). -/
  | dispVerdictHigh (score : BitVec 16)
  /-- `SLED` (R102). -/
  | sled (r g b : BitVec 7)
  /-- `STEP_BOOT_INIT` (R230). -/
  | stepBootInit
  /-- `STEP_BOOT_CHK` (R231). -/
  | stepBootChk
  /-- `STEP_IDLE_DRAW` (R235). -/
  | stepIdleDraw
  /-- `STEP_IDLE_WAIT` (R236). -/
  | stepIdleWait
  /-- `STEP_IDLE_EXIT` (R237). -/
  | stepIdleExit
  /-- `STEP_CD_DISP` (R241). -/
  | stepCdDisp
  /-- `STEP_CD_CHECK` (R242). -/
  | stepCdCheck
  /-- `STEP_CD_SET` (R243). -/
  | stepCdSet
  /-- `STEP_CD_FLUSH1` (R244). -/
  | stepCdFlush1
  /-- `STEP_CD_FWAIT1` (R245). -/
  | stepCdFwait1
  /-- `STEP_CD_ON` (R246). -/
  | stepCdOn
  /-- `STEP_CD_CLR` (R247). -/
  | stepCdClr
  /-- `STEP_CD_FLUSH2` (R248). -/
  | stepCdFlush2
  /-- `STEP_CD_FWAIT2` (R249). -/
  | stepCdFwait2
  /-- `STEP_CD_OFF` (R250). -/
  | stepCdOff
  /-- `STEP_RW_DRAW` (R255). -/
  | stepRwDraw
  /-- `STEP_RW_SET` (R256). -/
  | stepRwSet
  /-- `STEP_RW_FLUSH` (R257). -/
  | stepRwFlush
  /-- `STEP_RW_FWAIT` (R258). -/
  | stepRwFwait
  /-- `STEP_RW_POLL` (R259). -/
  | stepRwPoll
  /-- `STEP_RW_T1` (R263). -/
  | stepRwT1
  /-- `STEP_RW_T2` (R264). -/
  | stepRwT2
  /-- `STEP_RW_T3` (R265). -/
  | stepRwT3
  /-- `STEP_RW_LED` (R266). -/
  | stepRwLed
  /-- `STEP_RW_HOLD` (R267). -/
  | stepRwHold
  /-- `STEP_RW_CLR` (R268). -/
  | stepRwClr
  /-- `STEP_RES_CHK` (R272). -/
  | stepResChk
  /-- `STEP_RES_T1` (R273). -/
  | stepResT1
  /-- `STEP_RES_T2` (R274). -/
  | stepResT2
  /-- `STEP_RES_LED` (R275). -/
  | stepResLed
  /-- `STEP_RES_HOLD` (R276). -/
  | stepResHold
  /-- `STEP_RES_OFF` (R277). -/
  | stepResOff
  /-- `STEP_RES_CLR` (R278). -/
  | stepResClr
  /-- `STEP_RES_FLUSH` (R279). -/
  | stepResFlush
  /-- `STEP_RES_FWAIT` (R280). -/
  | stepResFwait
  /-- `STEP_RES_NEXT` (R281). -/
  | stepResNext
  /-- `STEP_GO_DRAW` (R285). -/
  | stepGoDraw
  /-- `STEP_GO_CHK` (R286). -/
  | stepGoChk
  /-- `STEP_GO_EXIT` (R287). -/
  | stepGoExit
  /-- `STEP_UNUSED_39` (R107). -/
  | stepUnused39
  /-- `STEP_UNUSED_40` (R107). -/
  | stepUnused40
  /-- `STEP_UNUSED_41` (R107). -/
  | stepUnused41
  /-- `STEP_UNUSED_42` (R107). -/
  | stepUnused42
  /-- `STEP_UNUSED_43` (R107). -/
  | stepUnused43
  /-- `STEP_UNUSED_44` (R107). -/
  | stepUnused44
  /-- `STEP_UNUSED_45` (R107). -/
  | stepUnused45
  /-- `STEP_UNUSED_46` (R107). -/
  | stepUnused46
  /-- `STEP_UNUSED_47` (R107). -/
  | stepUnused47
  /-- `STEP_UNUSED_48` (R107). -/
  | stepUnused48
  /-- `STEP_UNUSED_49` (R107). -/
  | stepUnused49
  /-- `STEP_UNUSED_50` (R107). -/
  | stepUnused50
  /-- `STEP_UNUSED_51` (R107). -/
  | stepUnused51
  /-- `STEP_UNUSED_52` (R107). -/
  | stepUnused52
  /-- `STEP_UNUSED_53` (R107). -/
  | stepUnused53
  /-- `STEP_UNUSED_54` (R107). -/
  | stepUnused54
  /-- `STEP_UNUSED_55` (R107). -/
  | stepUnused55
  /-- `STEP_UNUSED_56` (R107). -/
  | stepUnused56
  /-- `STEP_UNUSED_57` (R107). -/
  | stepUnused57
  /-- `STEP_UNUSED_58` (R107). -/
  | stepUnused58
  /-- `STEP_UNUSED_59` (R107). -/
  | stepUnused59
  /-- `STEP_UNUSED_60` (R107). -/
  | stepUnused60
  /-- `STEP_UNUSED_61` (R107). -/
  | stepUnused61
  /-- `STEP_UNUSED_62` (R107). -/
  | stepUnused62
  /-- `STEP_FATAL_HALT` (R290). -/
  | stepFatalHalt
deriving DecidableEq, Repr

end Sys2Proof
end

