-- ==== Sys2Proof/Decode.lean ====
section
/-! DEFINITION. The decoder and, after it, the encoder, both written from 30_encoding.md.

The format of a word is known from its port, never from its bits (R86), so the decoder reads an `Encoding`:
a word together with the port it stands on. -/

namespace Sys2Proof

/-- A word on one of the five ports (30_encoding.md R86). -/
inductive PortWord where
  | lcmd (w : LedWord)
  | latch (w : LatchWord)
  | tone (w : ToneWord)
  | disp (w : DispWord)
  | sled (w : SledWord)
deriving DecidableEq, Repr

/-- What selects an instruction: a word on a port, or a value of the step register. -/
inductive Encoding where
  | port (p : PortWord)
  | step (u : StepCode)
deriving DecidableEq, Repr

/-- Why the decoder rejects a word. -/
inductive Reject where
  /-- A tone word that is none of the five requests of 30_encoding.md R109. -/
  | unknownTone
  /-- A display word with a reserved screen code, 0 or 6 to 15 (R101). -/
  | reservedScreen
  /-- A status-LED word with a percentage of 101 to 127 (R102). -/
  | sledPercent
deriving DecidableEq, Repr

/-! ## LED command words (R88 to R91) -/

/-- Field `op`, bits 47:44. -/
def lcmdOp (w : LedWord) : BitVec 4 := w.extractLsb' 44 4

/-- Field `rsv`, bits 43:40. -/
def lcmdRsv (w : LedWord) : BitVec 4 := w.extractLsb' 40 4

/-- All operand bits, 39:0. -/
def lcmdOperands (w : LedWord) : BitVec 40 := w.extractLsb' 0 40

/-- Field `idx`, bits 39:24 (R89). -/
def lcmdIdx (w : LedWord) : BitVec 16 := w.extractLsb' 24 16

/-- Field `r`, bits 23:16 (R89). -/
def lcmdR (w : LedWord) : BitVec 8 := w.extractLsb' 16 8

/-- Field `g`, bits 15:8 (R89). -/
def lcmdG (w : LedWord) : BitVec 8 := w.extractLsb' 8 8

/-- Field `b`, bits 7:0 (R89). -/
def lcmdB (w : LedWord) : BitVec 8 := w.extractLsb' 0 8

/-- `wf(cmd)`: the opcode is at most 4, `rsv` is 0, and only `SET_PIXEL` has operand bits (R91). -/
def lcmdWf (w : LedWord) : Bool :=
  decide ((lcmdOp w).toNat ≤ 4) && decide (lcmdRsv w = 0) &&
    (decide (lcmdOp w = 2) || decide (lcmdOperands w = 0))

/-- The opcode map of R90: a word selects the row whose match it equals under the row's mask; a word that
selects none is illegal (R92). Total. -/
def decodeLcmd (w : LedWord) : LedCmd :=
  if w &&& 0xFFFFFFFFFFFF#48 = 0x000000000000#48 then .nop
  else if w &&& 0xFFFFFFFFFFFF#48 = 0x100000000000#48 then .init
  else if w &&& 0xFF0000000000#48 = 0x200000000000#48 then
    .setPixel (lcmdIdx w) (lcmdR w) (lcmdG w) (lcmdB w)
  else if w &&& 0xFFFFFFFFFFFF#48 = 0x300000000000#48 then .clear
  else if w &&& 0xFFFFFFFFFFFF#48 = 0x400000000000#48 then .flush
  else .illegal

/-- The row of the opcode table an LED command word selects. -/
def decodeLcmdWord (w : LedWord) : Instr :=
  match decodeLcmd w with
  | .nop => .nop
  | .init => .init
  | .setPixel idx r g b => .setPixel idx r g b
  | .clear => .clear
  | .flush => .flush
  | .illegal => .lcmdReserved w

/-! ## Latch operations (R97) -/

/-- `00` NONE, `01` CLEAR_ALL, `10` and `11` reserved. -/
def decodeLatch (w : LatchWord) : Instr :=
  if w = 0b00#2 then .latchNone
  else if w = 0b01#2 then .latchClearAll
  else .latchReserved (w.getLsbD 0)

/-! ## Collaborator requests (R99 to R102, R109) -/

/-- Frequency and duration select the request; the volume is its operand (R109). -/
def decodeTone (w : ToneWord) : Except Reject Instr :=
  let request : BitVec 32 := w.extractLsb' 8 32
  let vol : BitVec 8 := w.extractLsb' 0 8
  if request = 0x03200064#32 then .ok (.toneRwT1 vol)
  else if request = 0x03E80064#32 then .ok (.toneRwT2 vol)
  else if request = 0x04B00064#32 then .ok (.toneRwT3 vol)
  else if request = 0x0190012C#32 then .ok (.toneResT1 vol)
  else if request = 0x012C012C#32 then .ok (.toneResT2 vol)
  else .error .unknownTone

/-- The screen code selects the request; the score is its operand (R100, R101). -/
def decodeDisp (w : DispWord) : Except Reject Instr :=
  let screen : BitVec 4 := w.extractLsb' 16 4
  let score : BitVec 16 := w.extractLsb' 0 16
  if screen = 1 then .ok (.dispPrompt score)
  else if screen = 2 then .ok (.dispLegend score)
  else if screen = 3 then .ok (.dispVerdictLow score)
  else if screen = 4 then .ok (.dispVerdictMed score)
  else if screen = 5 then .ok (.dispVerdictHigh score)
  else .error .reservedScreen

/-- Each percentage is 0 to 100 (R102). -/
def percentsOk (r g b : BitVec 7) : Bool :=
  decide (r.toNat ≤ 100) && decide (g.toNat ≤ 100) && decide (b.toNat ≤ 100)

/-- Three 7-bit percentages, r in bits 20:14 (R102). -/
def decodeSled (w : SledWord) : Except Reject Instr :=
  let r : BitVec 7 := w.extractLsb' 14 7
  let g : BitVec 7 := w.extractLsb' 7 7
  let b : BitVec 7 := w.extractLsb' 0 7
  if percentsOk r g b then .ok (.sled r g b) else .error .sledPercent

/-! ## Steps (R105, R107) -/

/-- Steps 0 to 4: BOOT, IDLE_WAIT_FOR_CHORD (30_encoding.md R105). -/
def bootTable : List Instr :=
  [.stepBootInit, .stepBootChk, .stepIdleDraw, .stepIdleWait, .stepIdleExit]

/-- Steps 5 to 14: COUNTDOWN_ANIMATION (30_encoding.md R105). -/
def countdownTable : List Instr :=
  [.stepCdDisp, .stepCdCheck, .stepCdSet, .stepCdFlush1, .stepCdFwait1, .stepCdOn, .stepCdClr,
    .stepCdFlush2, .stepCdFwait2, .stepCdOff]

/-- Steps 15 to 25: REACTION_WINDOW (30_encoding.md R105). -/
def windowTable : List Instr :=
  [.stepRwDraw, .stepRwSet, .stepRwFlush, .stepRwFwait, .stepRwPoll, .stepRwT1, .stepRwT2, .stepRwT3,
    .stepRwLed, .stepRwHold, .stepRwClr]

/-- Steps 26 to 35: ROUND_RESOLUTION (30_encoding.md R105). -/
def resolutionTable : List Instr :=
  [.stepResChk, .stepResT1, .stepResT2, .stepResLed, .stepResHold, .stepResOff, .stepResClr,
    .stepResFlush, .stepResFwait, .stepResNext]

/-- Steps 36 to 38: GAME_OVER_DISPLAY (30_encoding.md R105). -/
def gameOverTable : List Instr :=
  [.stepGoDraw, .stepGoChk, .stepGoExit]

/-- Steps 39 to 62: the unused values (30_encoding.md R105). -/
def unusedTable : List Instr :=
  [.stepUnused39, .stepUnused40, .stepUnused41, .stepUnused42, .stepUnused43, .stepUnused44,
    .stepUnused45, .stepUnused46, .stepUnused47, .stepUnused48, .stepUnused49, .stepUnused50,
    .stepUnused51, .stepUnused52, .stepUnused53, .stepUnused54, .stepUnused55, .stepUnused56,
    .stepUnused57, .stepUnused58, .stepUnused59, .stepUnused60, .stepUnused61, .stepUnused62]

/-- The step table, indexed by `upc` (R105, R107). -/
def stepTable : List Instr :=
  bootTable ++ countdownTable ++ windowTable ++ resolutionTable ++ gameOverTable ++ unusedTable ++
    [.stepFatalHalt]

/-- The step a value of `upc` selects; the table has a row for each of the 64 values. -/
def decodeStep (u : StepCode) : Instr := stepTable.getD u.toNat .stepFatalHalt

/-- The decoder: total, rejecting by name. -/
def decode : Encoding → Except Reject Instr
  | .port (.lcmd w) => .ok (decodeLcmdWord w)
  | .port (.latch w) => .ok (decodeLatch w)
  | .port (.tone w) => decodeTone w
  | .port (.disp w) => decodeDisp w
  | .port (.sled w) => decodeSled w
  | .step u => .ok (decodeStep u)

/-! ## The encoder -/

/-- `{0x2, 0x0, idx, r, g, b}` (R93). -/
def setPixelWord (idx : BitVec 16) (r g b : BitVec 8) : LedWord :=
  0x20#8 ++ idx ++ r ++ g ++ b

/-- `{freq, dur, vol}` (R99). -/
def toneWord (freq dur : BitVec 16) (vol : BitVec 8) : ToneWord := freq ++ dur ++ vol

/-- `{screen, score}` (R100). -/
def dispWord (screen : BitVec 4) (score : BitVec 16) : DispWord := screen ++ score

/-- `{r, g, b}` (R102). -/
def sledWord (r g b : BitVec 7) : SledWord := r ++ g ++ b

/-- The word of an instruction on its port, or its step code (R90, R97, R109, R101, R102, R105). -/
def encode : Instr → Encoding
  | .nop => .port (.lcmd 0x000000000000)
  | .init => .port (.lcmd 0x100000000000)
  | .setPixel idx r g b => .port (.lcmd (setPixelWord idx r g b))
  | .clear => .port (.lcmd 0x300000000000)
  | .flush => .port (.lcmd 0x400000000000)
  | .lcmdReserved w => .port (.lcmd w)
  | .latchNone => .port (.latch 0b00)
  | .latchClearAll => .port (.latch 0b01)
  | .latchReserved low => .port (.latch (0b1#1 ++ BitVec.ofBool low))
  | .toneRwT1 vol => .port (.tone (toneWord 800 100 vol))
  | .toneRwT2 vol => .port (.tone (toneWord 1000 100 vol))
  | .toneRwT3 vol => .port (.tone (toneWord 1200 100 vol))
  | .toneResT1 vol => .port (.tone (toneWord 400 300 vol))
  | .toneResT2 vol => .port (.tone (toneWord 300 300 vol))
  | .dispPrompt score => .port (.disp (dispWord 1 score))
  | .dispLegend score => .port (.disp (dispWord 2 score))
  | .dispVerdictLow score => .port (.disp (dispWord 3 score))
  | .dispVerdictMed score => .port (.disp (dispWord 4 score))
  | .dispVerdictHigh score => .port (.disp (dispWord 5 score))
  | .sled r g b => .port (.sled (sledWord r g b))
  | .stepBootInit => .step 0
  | .stepBootChk => .step 1
  | .stepIdleDraw => .step 2
  | .stepIdleWait => .step 3
  | .stepIdleExit => .step 4
  | .stepCdDisp => .step 5
  | .stepCdCheck => .step 6
  | .stepCdSet => .step 7
  | .stepCdFlush1 => .step 8
  | .stepCdFwait1 => .step 9
  | .stepCdOn => .step 10
  | .stepCdClr => .step 11
  | .stepCdFlush2 => .step 12
  | .stepCdFwait2 => .step 13
  | .stepCdOff => .step 14
  | .stepRwDraw => .step 15
  | .stepRwSet => .step 16
  | .stepRwFlush => .step 17
  | .stepRwFwait => .step 18
  | .stepRwPoll => .step 19
  | .stepRwT1 => .step 20
  | .stepRwT2 => .step 21
  | .stepRwT3 => .step 22
  | .stepRwLed => .step 23
  | .stepRwHold => .step 24
  | .stepRwClr => .step 25
  | .stepResChk => .step 26
  | .stepResT1 => .step 27
  | .stepResT2 => .step 28
  | .stepResLed => .step 29
  | .stepResHold => .step 30
  | .stepResOff => .step 31
  | .stepResClr => .step 32
  | .stepResFlush => .step 33
  | .stepResFwait => .step 34
  | .stepResNext => .step 35
  | .stepGoDraw => .step 36
  | .stepGoChk => .step 37
  | .stepGoExit => .step 38
  | .stepUnused39 => .step 39
  | .stepUnused40 => .step 40
  | .stepUnused41 => .step 41
  | .stepUnused42 => .step 42
  | .stepUnused43 => .step 43
  | .stepUnused44 => .step 44
  | .stepUnused45 => .step 45
  | .stepUnused46 => .step 46
  | .stepUnused47 => .step 47
  | .stepUnused48 => .step 48
  | .stepUnused49 => .step 49
  | .stepUnused50 => .step 50
  | .stepUnused51 => .step 51
  | .stepUnused52 => .step 52
  | .stepUnused53 => .step 53
  | .stepUnused54 => .step 54
  | .stepUnused55 => .step 55
  | .stepUnused56 => .step 56
  | .stepUnused57 => .step 57
  | .stepUnused58 => .step 58
  | .stepUnused59 => .step 59
  | .stepUnused60 => .step 60
  | .stepUnused61 => .step 61
  | .stepUnused62 => .step 62
  | .stepFatalHalt => .step 63

/-! ## Words of the opcode table -/

/-- The port a word of `nbits` bits stands on. The widths as the table has them name the port; in whole
bytes 8 bits are read as a step code and 24 bits as a display word where the screen code is one of the
table's, else as a status-LED word (log 15). -/
def tableEncoding (nbits w : Nat) : Option Encoding :=
  if nbits = 48 then (if w < 2 ^ 48 then some (.port (.lcmd (BitVec.ofNat 48 w))) else none)
  else if nbits = 40 then (if w < 2 ^ 40 then some (.port (.tone (BitVec.ofNat 40 w))) else none)
  else if nbits = 2 then (if w < 2 ^ 2 then some (.port (.latch (BitVec.ofNat 2 w))) else none)
  else if nbits = 6 ∨ nbits = 8 then (if w < 2 ^ 6 then some (.step (BitVec.ofNat 6 w)) else none)
  else if nbits = 20 then (if w < 2 ^ 20 then some (.port (.disp (BitVec.ofNat 20 w))) else none)
  else if nbits = 21 then (if w < 2 ^ 21 then some (.port (.sled (BitVec.ofNat 21 w))) else none)
  else if nbits = 24 then
    (if 0x10000 ≤ w ∧ w < 0x60000 then some (.port (.disp (BitVec.ofNat 20 w)))
     else if w < 2 ^ 21 then some (.port (.sled (BitVec.ofNat 21 w))) else none)
  else none

/-- The instruction the decoder reads from a word of the opcode table. -/
def decodeTableWord (nbits w : Nat) : Option Instr :=
  match tableEncoding nbits w with
  | none => none
  | some e =>
    match decode e with
    | .ok i => some i
    | .error _ => none

end Sys2Proof
end

