-- ==== Sys2Proof/WellFormed.lean ====
section
/-! DEFINITION. The check that an instruction's operands are ones its encoding admits. -/

namespace Sys2Proof

/-- Every operand that fills its field is well-formed; two rows restrict theirs: the reserved LED row
holds only words with `wf` false (30_encoding.md R91, R92), and a status-LED percentage is at most 100
(R102). -/
def Instr.wellFormed : Instr → Bool
  | .lcmdReserved w => !lcmdWf w
  | .sled r g b => percentsOk r g b
  | .nop | .init | .setPixel _ _ _ _ | .clear | .flush | .latchNone | .latchClearAll | .latchReserved _
  | .toneRwT1 _ | .toneRwT2 _ | .toneRwT3 _ | .toneResT1 _ | .toneResT2 _ | .dispPrompt _ | .dispLegend _
  | .dispVerdictLow _ | .dispVerdictMed _ | .dispVerdictHigh _ | .stepBootInit | .stepBootChk
  | .stepIdleDraw | .stepIdleWait | .stepIdleExit | .stepCdDisp | .stepCdCheck | .stepCdSet | .stepCdFlush1
  | .stepCdFwait1 | .stepCdOn | .stepCdClr | .stepCdFlush2 | .stepCdFwait2 | .stepCdOff | .stepRwDraw
  | .stepRwSet | .stepRwFlush | .stepRwFwait | .stepRwPoll | .stepRwT1 | .stepRwT2 | .stepRwT3 | .stepRwLed
  | .stepRwHold | .stepRwClr | .stepResChk | .stepResT1 | .stepResT2 | .stepResLed | .stepResHold
  | .stepResOff | .stepResClr | .stepResFlush | .stepResFwait | .stepResNext | .stepGoDraw | .stepGoChk
  | .stepGoExit | .stepUnused39 | .stepUnused40 | .stepUnused41 | .stepUnused42 | .stepUnused43
  | .stepUnused44 | .stepUnused45 | .stepUnused46 | .stepUnused47 | .stepUnused48 | .stepUnused49
  | .stepUnused50 | .stepUnused51 | .stepUnused52 | .stepUnused53 | .stepUnused54 | .stepUnused55
  | .stepUnused56 | .stepUnused57 | .stepUnused58 | .stepUnused59 | .stepUnused60 | .stepUnused61
  | .stepUnused62 | .stepFatalHalt => true

end Sys2Proof
end

