-- ==== Sys2Proof/Machine/State.lean ====
section
/-! DEFINITION. The state of GAC: every register of 10_state.md, the configuration it runs under, the
inputs of the coming cycles, the test client's script, and the state after reset. Plain data throughout. -/

namespace Sys2Proof.Machine

/-- The frame buffer's storage: (index, element) pairs, indices strictly rising (log 5). -/
abbrev Memory := List (Nat × Pixel)

/-- The values of `ld_st` that are ever written (10_state.md R24). -/
inductive LedState where
  | uninit | idle | tx | latch | fatal
deriving DecidableEq, Repr

/-- The LED driver's registers (10_state.md R24 to R28). -/
structure Led where
  /-- `ld_st`. -/
  st : LedState
  /-- `FB`; an index not listed has no value (R26). -/
  fb : Memory
  /-- `pix`, the index of the pixel being transmitted. -/
  pix : BitVec 16
  /-- `bit`, the index of the data bit being transmitted. -/
  bit : BitVec 5
  /-- `cnt`, the cycle counter of the symbol or of the hold. -/
  cnt : BitVec 32
  /-- `err`, the sticky error bits (R28). -/
  err : BitVec 4
deriving DecidableEq, Repr

/-- The input latch's registers (10_state.md R30 to R35). -/
structure Latch where
  /-- `sy_A[0..S-1]`, stage 0 first (log 18). -/
  syA : List Bool
  /-- `sy_B[0..S-1]`, stage 0 first. -/
  syB : List Bool
  prevA : Bool
  prevB : Bool
  /-- `warm`, cycles since reset, saturating at S+1 (log 18). -/
  warm : Nat
  flagA : Bool
  flagB : Bool
  heldA : Bool
  heldB : Bool
  chord : Bool
deriving DecidableEq, Repr

/-- The timer's registers (10_state.md R36, R37). -/
structure Timer where
  /-- `presc` (log 18). -/
  presc : Nat
  /-- `TIMER_US`. -/
  us : Micros
deriving DecidableEq, Repr

/-- The sequencer's registers (10_state.md R38 to R46). -/
structure Seq where
  score : BitVec 16
  snapshot : BitVec 16
  round : BitVec 4
  target : Colour
  slot : Colour
  t0 : Micros
  /-- `t_cd`, the start of the countdown window. -/
  tCd : Micros
  /-- `t_e`, the reaction-window entry time. -/
  tE : Micros
  session : Bool
  upc : StepCode
  sledR : BitVec 7
  sledG : BitVec 7
  sledB : BitVec 7
deriving DecidableEq, Repr

/-- MODEL'S OWN (log 17): what the tone player and the display have accepted, which is what the display
shows (42_collaborators.md R192, R197, R198). -/
structure Collab where
  /-- The last tone request transferred. -/
  toneLast : Option ToneWord
  /-- How many tone requests have been transferred. -/
  toneDone : Nat
  /-- The last display request transferred. -/
  dispLast : Option DispWord
  /-- How many display requests have been transferred. -/
  dispDone : Nat
deriving DecidableEq, Repr

/-- The inputs of one cycle (10_state.md R51): what the environment chooses. -/
structure Pins where
  rst : Bool
  /-- `sample_A` and `sample_B` at the edge that ends the cycle, 1 = pressed (41_input_latch.md R165). -/
  sampleA : Bool
  sampleB : Bool
  /-- `rnd_val` (42_collaborators.md R201). -/
  rnd : BitVec 2
  toneReady : Bool
  dispReady : Bool
deriving DecidableEq, Repr

/-- A button line. -/
inductive Line where
  | a | b
deriving DecidableEq, Repr

/-- One line of a client script (30_encoding.md R93, R94). -/
inductive ClientItem where
  /-- Present a word on its port until it is accepted. -/
  | word (p : PortWord)
  /-- `WAIT n`: present nothing for n cycles. -/
  | wait (n : Nat)
  /-- `WAIT_IDLE`: present nothing until a cycle with `led_idle` = 1. -/
  | waitIdle
  /-- `PRESS` (true) or `RELEASE` (false) of a line, from the next edge on. -/
  | button (l : Line) (pressed : Bool)
deriving DecidableEq, Repr

/-- MODEL'S OWN (log 12, log 16): the test client of 30_encoding.md R94, R95. -/
structure Client where
  /-- The lines still to be performed, the current one first. -/
  script : List ClientItem
  /-- The level a PRESS or RELEASE has set on line A, if one has. -/
  driveA : Option Bool
  /-- The level a PRESS or RELEASE has set on line B, if one has. -/
  driveB : Option Bool
deriving DecidableEq, Repr

/-- The whole machine in one cycle. -/
structure State where
  /-- The parameters and the strap; no step changes them (log 2). -/
  cfg : Config
  led : Led
  latch : Latch
  timer : Timer
  seq : Seq
  collab : Collab
  client : Client
  /-- MODEL'S OWN (log 3): the inputs of this cycle and the following ones, as far as they are given. -/
  env : List Pins
  /-- MODEL'S OWN (log 3): the index at which the free inputs are read when `env` is empty. -/
  cycle : Nat
deriving DecidableEq, Repr

/-- Why the machine stops with a fault. -/
inductive Fault where
  /-- Raised at the edge of a cycle in which the serializer (`ld_st` = TX) would read a frame-buffer bit
  that does not exist: `pix` >= N or `bit` > 23 (20_memory.md R61, 10_state.md R27; log 8). Safe: no such
  state is reached from reset, and the model stops where the hardware's behaviour is not given. -/
  | serializerRange
deriving DecidableEq, Repr

/-- Why the machine refuses an instruction. -/
inductive Refusal where
  /-- Raised by `exec` alone, for an instruction that has no meaning yet. Safe. -/
  | notModelled (mnemonic : String)
  /-- Raised by `step` when a test client presents a word the decoder rejects by name, and by the meaning
  of `SLED` on a percentage over 100 (30_encoding.md R101, R102, R109; log 14). Safe: GAC never drives
  such a word. -/
  | rejected (why : Reject)
deriving DecidableEq, Repr

/-- The three outcomes of an instruction or a step. -/
abbrev Result := Host.Outcome State Fault Refusal

/-- The LED driver after reset; `FB` has no value (10_state.md R26, R54). -/
def Led.atReset : Led :=
  { st := .uninit, fb := [], pix := 0, bit := 0, cnt := 0, err := 0 }

/-- The input latch after reset (10_state.md R54). -/
def Latch.atReset (c : Config) : Latch :=
  { syA := List.replicate c.syncStages false, syB := List.replicate c.syncStages false,
    prevA := false, prevB := false, warm := 0, flagA := false, flagB := false,
    heldA := false, heldB := false, chord := false }

/-- The timer after reset (10_state.md R54). -/
def Timer.atReset : Timer := { presc := 0, us := 0 }

/-- The sequencer after reset (10_state.md R54): at `BOOT_INIT`. -/
def Seq.atReset : Seq :=
  { score := 0, snapshot := 0, round := 0, target := .red, slot := .red, t0 := 0, tCd := 0, tE := 0,
    session := false, upc := 0, sledR := 0, sledG := 0, sledB := 0 }

/-- The machine in cycle 0 (70_reset_and_hazards.md R330) under a given configuration; the model's own
fields hold nothing (log 3, log 12, log 17). -/
def State.resetWith (c : Config) : State :=
  { cfg := c, led := Led.atReset, latch := Latch.atReset c, timer := Timer.atReset, seq := Seq.atReset,
    collab := { toneLast := none, toneDone := 0, dispLast := none, dispDone := 0 },
    client := { script := [], driveA := none, driveB := none }, env := [], cycle := 0 }

/-- The machine right after reset (70_reset_and_hazards.md R330), under the launch configuration (log 1). -/
def State.reset : State := State.resetWith Config.launch

end Sys2Proof.Machine
end

