-- ==== Sys2Proof/Machine/Flags.lean ====
section
/-! DEFINITION. Every flag computation of GAC: the input latch's synchronizer, edge detection and flags
(41_input_latch.md), its outputs, and the deadline comparisons of the sequencer (43_game_fsm.md R218). -/

namespace Sys2Proof.Machine

/-! ## The input latch -/

/-- `LVL_x` = `sy_x[S-1]` (41_input_latch.md R166). -/
def lineLevel (c : Config) (chain : List Bool) : Bool := chain.getD (c.syncStages - 1) false

/-- `sy_x[0] <- sample`, `sy_x[k] <- sy_x[k-1]` (R166). -/
def shiftChain (c : Config) (sample : Bool) (chain : List Bool) : List Bool :=
  (sample :: chain).take c.syncStages

/-- `en`: warm-up is over (R168). -/
def Latch.enabled (c : Config) (l : Latch) : Bool := decide (l.warm = c.syncStages + 1)

/-- An assertion edge: level 1 after level 0, when enabled (R167). -/
def riseOf (en level prev : Bool) : Bool := en && level && !prev

/-- A release edge: level 0 after level 1, when enabled (R167). -/
def fallOf (en level prev : Bool) : Bool := en && !level && prev

/-- `rise_A` (R167). -/
def Latch.riseA (c : Config) (l : Latch) : Bool := riseOf (l.enabled c) (lineLevel c l.syA) l.prevA

/-- `rise_B` (R167). -/
def Latch.riseB (c : Config) (l : Latch) : Bool := riseOf (l.enabled c) (lineLevel c l.syB) l.prevB

/-- `fall_A` (R167). -/
def Latch.fallA (c : Config) (l : Latch) : Bool := fallOf (l.enabled c) (lineLevel c l.syA) l.prevA

/-- `fall_B` (R167). -/
def Latch.fallB (c : Config) (l : Latch) : Bool := fallOf (l.enabled c) (lineLevel c l.syB) l.prevB

/-- `clr`: only code `01` clears; the reserved codes act as NONE (R169, R176; log 10). -/
def clears (op : LatchWord) : Bool := decide (op = 0b01#2)

/-- The new value of a sticky flag (R170): a set wins over a clear (R173). -/
def nextFlag (rise clr flag : Bool) : Bool := rise || (flag && !clr)

/-- The new value of a level-qualified flag (R171). -/
def nextHeld (rise fall clr held : Bool) : Bool := rise || (held && !clr && !fall)

/-- The new value of the chord flag, from the new values of the level-qualified pair (R172). -/
def nextChord (heldA' heldB' clr chord : Bool) : Bool := (heldA' && heldB') || (chord && !clr)

/-- One edge of the whole latch (R166 to R172): `op` is `latch_op`, `sA` and `sB` the samples. -/
def Latch.cycle (c : Config) (op : LatchWord) (sA sB : Bool) (l : Latch) : Latch :=
  let heldA' := nextHeld (l.riseA c) (l.fallA c) (clears op) l.heldA
  let heldB' := nextHeld (l.riseB c) (l.fallB c) (clears op) l.heldB
  { syA := shiftChain c sA l.syA
    syB := shiftChain c sB l.syB
    prevA := lineLevel c l.syA
    prevB := lineLevel c l.syB
    warm := min (l.warm + 1) (c.syncStages + 1)
    flagA := nextFlag (l.riseA c) (clears op) l.flagA
    flagB := nextFlag (l.riseB c) (clears op) l.flagB
    heldA := heldA'
    heldB := heldB'
    chord := nextChord heldA' heldB' (clears op) l.chord }

/-- `latch_a` (R174). -/
def Latch.outA (c : Config) (l : Latch) : Bool :=
  match c.latchMode with
  | .sticky => l.flagA
  | .level => l.heldA

/-- `latch_b` (R174). -/
def Latch.outB (c : Config) (l : Latch) : Bool :=
  match c.latchMode with
  | .sticky => l.flagB
  | .level => l.heldB

/-- `latch_chord` (R174). -/
def Latch.outChord (l : Latch) : Bool := l.chord

/-! ## The LED driver's status (40_led_driver.md R123) -/

/-- `led_cmd_ready`. -/
def Led.ready (l : Led) : Bool := decide (l.st = .uninit ∨ l.st = .idle)

/-- `led_idle`. -/
def Led.isIdle (l : Led) : Bool := decide (l.st = .idle)

/-- `led_fatal`. -/
def Led.isFatal (l : Led) : Bool := decide (l.st = .fatal)

/-! ## Comparisons of the sequencer -/

/-- `el(t)`: the unsigned 32-bit difference (43_game_fsm.md R218). -/
def elapsed (now t : Micros) : Nat := (now - t).toNat

/-- A deadline test `el(t) >= D` (R218). -/
def deadline (now t : Micros) (d : Nat) : Bool := decide (d ≤ elapsed now t)

/-- `hit` (R227): the flag that matches the target colour. -/
def State.hit (s : State) : Bool :=
  match s.seq.target with
  | .red => s.latch.outA s.cfg
  | .green => s.latch.outB s.cfg
  | .blue => s.latch.outChord

end Sys2Proof.Machine
end

