-- ==== Sys2Proof/Machine/Client.lean ====
section
/-! DEFINITION. The inputs of a cycle, the test client of 30_encoding.md R94 to R96, and the assembler of
its text (R93). -/

namespace Sys2Proof.Machine

/-! ## Inputs -/

/-- The free inputs of the cycle of an index (log 3). -/
def freePins (k : Nat) : Pins :=
  { rst := Config.freeRst k, sampleA := Config.freeSampleA k, sampleB := Config.freeSampleB k,
    rnd := Config.freeRnd k, toneReady := Config.freeToneReady k, dispReady := Config.freeDispReady k }

/-- The inputs of the current cycle: given by `env`, free where it gives none. -/
def State.pins (s : State) : Pins := s.env.headD (freePins s.cycle)

/-! ## The script -/

/-- `WAIT 0` presents nothing for no cycle: it is passed over (log 16). -/
def ClientItem.isNoWait : ClientItem → Bool
  | .wait n => decide (n = 0)
  | .word _ | .waitIdle | .button _ _ => false

/-- The script from its current line on. -/
def State.script (s : State) : List ClientItem := s.client.script.dropWhile ClientItem.isNoWait

/-- The word a client presents in this cycle, if any (30_encoding.md R95). -/
def State.clientWord (s : State) : Option PortWord :=
  match s.script with
  | .word p :: _ => some p
  | _ => none

/-- The level that PRESS and RELEASE lines up to this cycle have set on a line (R94; log 16). -/
def buttonDrive (l : Line) (script : List ClientItem) (held : Option Bool) : Option Bool :=
  match script with
  | .button l' pressed :: _ => if l' = l then some pressed else held
  | _ => held

/-- `sample_A` at the edge ending this cycle (41_input_latch.md R165). -/
def State.sampleA (s : State) : Bool :=
  (buttonDrive .a s.script s.client.driveA).getD s.pins.sampleA

/-- `sample_B` at the edge ending this cycle (41_input_latch.md R165). -/
def State.sampleB (s : State) : Bool :=
  (buttonDrive .b s.script s.client.driveB).getD s.pins.sampleB

/-- Whether a word a client presents is accepted in this cycle: by `led_cmd_ready`, `tone_ready` or
`disp_ready` on the ports with a handshake, at once on the others (00_scope.md R18). -/
def State.accepts (s : State) : PortWord → Bool
  | .lcmd _ => s.led.ready
  | .latch _ => true
  | .tone _ => s.pins.toneReady
  | .disp _ => s.pins.dispReady
  | .sled _ => true

/-- The script after this cycle: a line that is complete is passed (R95). -/
def State.nextScript (s : State) : List ClientItem :=
  match s.script with
  | [] => []
  | .word p :: rest => if s.accepts p then rest else .word p :: rest
  | .wait n :: rest => if n = 1 then rest else .wait (n - 1) :: rest
  | .waitIdle :: rest => if s.led.isIdle then rest else .waitIdle :: rest
  | .button _ _ :: rest => rest

/-- The client after this cycle. -/
def State.nextClient (s : State) : Client :=
  { script := s.nextScript
    driveA := buttonDrive .a s.script s.client.driveA
    driveB := buttonDrive .b s.script s.client.driveB }

/-! ## Pseudo-instructions (30_encoding.md R96) -/

/-- `SHOW i, r, g, b`. -/
def showScript (i : BitVec 16) (r g b : BitVec 8) : List ClientItem :=
  [.word (.lcmd (setPixelWord i r g b)), .word (.lcmd 0x400000000000), .waitIdle]

/-- `BLANK`. -/
def blankScript : List ClientItem :=
  [.word (.lcmd 0x300000000000), .word (.lcmd 0x400000000000), .waitIdle]

/-- `LIGHT_ONLY i, r, g, b`. -/
def lightOnlyScript (i : BitVec 16) (r g b : BitVec 8) : List ClientItem :=
  .word (.lcmd 0x300000000000) :: showScript i r g b

/-! ## Assembler (30_encoding.md R93, R94, R96; log 26) -/

/-- A decimal digit's value. -/
def decDigit (c : Char) : Option Nat :=
  if '0'.toNat ≤ c.toNat ∧ c.toNat ≤ '9'.toNat then some (c.toNat - '0'.toNat) else none

/-- A hexadecimal digit's value. -/
def hexDigit (c : Char) : Option Nat :=
  if 'a'.toNat ≤ c.toNat ∧ c.toNat ≤ 'f'.toNat then some (c.toNat - 'a'.toNat + 10)
  else if 'A'.toNat ≤ c.toNat ∧ c.toNat ≤ 'F'.toNat then some (c.toNat - 'A'.toNat + 10)
  else decDigit c

/-- The digits of a number in a base, most significant first, onto what has been read. -/
def readDigits (base : Nat) (digit : Char → Option Nat) : List Char → Nat → Option Nat
  | [], acc => some acc
  | c :: cs, acc =>
    match digit c with
    | none => none
    | some d => readDigits base digit cs (acc * base + d)

/-- A number, decimal or `0x` hex. -/
def readNumber : List Char → Option Nat
  | [] => none
  | '0' :: 'x' :: c :: cs => readDigits 16 hexDigit (c :: cs) 0
  | c :: cs => readDigits 10 decDigit (c :: cs) 0

/-- Text without the spaces before and after it. -/
def trimSpaces (cs : List Char) : List Char :=
  ((cs.dropWhile (· == ' ')).reverse.dropWhile (· == ' ')).reverse

/-- The operands between the commas. -/
def splitCommas : List Char → List Char → List (List Char)
  | [], acc => [acc.reverse]
  | c :: cs, acc =>
    if c == ',' then acc.reverse :: splitCommas cs [] else splitCommas cs (c :: acc)

/-- All operands as numbers, none if one of them is not a number. -/
def readNumbers : List (List Char) → Option (List Nat)
  | [] => some []
  | t :: ts =>
    match readNumber (trimSpaces t), readNumbers ts with
    | some n, some ns => some (n :: ns)
    | _, _ => none

/-- A number that fits an unsigned field of `w` bits; outside its range it is an assembly error (R93). -/
def fitField (w n : Nat) : Option (BitVec w) := if n < 2 ^ w then some (BitVec.ofNat w n) else none

/-- `SET_PIXEL`'s operands. -/
def pixelOperands : List Nat → Option (BitVec 16 × BitVec 8 × BitVec 8 × BitVec 8)
  | [i, r, g, b] =>
    match fitField 16 i, fitField 8 r, fitField 8 g, fitField 8 b with
    | some i, some r, some g, some b => some (i, r, g, b)
    | _, _, _, _ => none
  | _ => none

/-- The line a button directive names. -/
def readLine (cs : List Char) : Option Line :=
  if cs = ['A'] then some .a else if cs = ['B'] then some .b else none

/-- One line of client text as the script lines it stands for; none is an assembly error. -/
def assemble (text : List Char) : Option (List ClientItem) :=
  let line := trimSpaces text
  let name := line.takeWhile (· != ' ')
  let rest := trimSpaces (line.dropWhile (· != ' '))
  let bare (items : List ClientItem) : Option (List ClientItem) :=
    if rest = [] then some items else none
  let pixel (f : BitVec 16 → BitVec 8 → BitVec 8 → BitVec 8 → List ClientItem) :=
    match readNumbers (splitCommas rest []) with
    | none => none
    | some ns => (pixelOperands ns).map fun o => f o.1 o.2.1 o.2.2.1 o.2.2.2
  if name = "NOP".toList then bare [.word (.lcmd 0x000000000000)]
  else if name = "INIT".toList then bare [.word (.lcmd 0x100000000000)]
  else if name = "SET_PIXEL".toList then pixel fun i r g b => [.word (.lcmd (setPixelWord i r g b))]
  else if name = "CLEAR".toList then bare [.word (.lcmd 0x300000000000)]
  else if name = "FLUSH".toList then bare [.word (.lcmd 0x400000000000)]
  else if name = "LATCH.NONE".toList ∨ name = "LATCH.READ".toList then bare [.word (.latch 0b00)]
  else if name = "LATCH.CLEAR_ALL".toList then bare [.word (.latch 0b01)]
  else if name = "WAIT_IDLE".toList then bare [.waitIdle]
  else if name = "WAIT".toList then (readNumber rest).map fun n => [.wait n]
  else if name = "PRESS".toList then (readLine rest).map fun l => [.button l true]
  else if name = "RELEASE".toList then (readLine rest).map fun l => [.button l false]
  else if name = "SHOW".toList then pixel showScript
  else if name = "BLANK".toList then bare blankScript
  else if name = "LIGHT_ONLY".toList then pixel lightOnlyScript
  else none

end Sys2Proof.Machine
end

