-- ==== Sys2Proof/Machine/Operands.lean ====
section
/-! DEFINITION. The constants of 00_scope.md R14, the colour operands (R12), the words the sequencer puts
on its ports (30_encoding.md R108, R109, R101; 43_game_fsm.md R221 to R223) and the values it computes
(points, verdict). -/

namespace Sys2Proof.Machine

/-! ## Constants of the source (00_scope.md R14), times in microseconds -/

/-- `ROUNDS`. -/
def roundsPerSession : BitVec 4 := 10

/-- `WINDOW_MS` = 700. -/
def windowMs : Nat := 700

/-- The reaction window in microseconds. -/
def windowUs : Nat := windowMs * 1000

/-- `COUNTDOWN_MS` = 3000. -/
def countdownUs : Nat := 3000 * 1000

/-- `CD_ON_MS` = 150. -/
def countdownOnUs : Nat := 150 * 1000

/-- `CD_OFF_MS` = 150. -/
def countdownOffUs : Nat := 150 * 1000

/-- `IDLE_REFRESH_MS` = 100. -/
def idleRefreshUs : Nat := 100 * 1000

/-- `HOLD_MS` = 500. -/
def holdUs : Nat := 500 * 1000

/-- `TONE_GAP_MS` = 50. -/
def toneGapMs : Nat := 50

/-- `THRESH_MED`. -/
def threshMed : Nat := 3000

/-- `THRESH_HIGH`. -/
def threshHigh : Nat := 5000

/-! ## Colours (00_scope.md R12) -/

/-- The 2-bit colour code. -/
def colourCode : Colour → BitVec 2
  | .red => 0
  | .green => 1
  | .blue => 2

/-- The colour of a code; 3 is not a colour. -/
def colourOf (v : BitVec 2) : Option Colour :=
  if v = 0 then some .red else if v = 1 then some .green else if v = 2 then some .blue else none

/-- `POS(c)`. -/
def colourPos (cfg : Config) : Colour → BitVec 16
  | .red => cfg.posRed
  | .green => cfg.posGreen
  | .blue => cfg.posBlue

/-- `COLOR(c)`: `LED_LEVEL` on the colour's own channel, in the order r, g, b. -/
def colourRgb (cfg : Config) : Colour → BitVec 8 × BitVec 8 × BitVec 8
  | .red => (cfg.ledLevel, 0, 0)
  | .green => (0, cfg.ledLevel, 0)
  | .blue => (0, 0, cfg.ledLevel)

/-- The countdown order RED, BLUE, GREEN, RED (43_game_fsm.md R240). -/
def nextSlot : Colour → Colour
  | .red => .blue
  | .blue => .green
  | .green => .red

/-! ## LED command words the sequencer issues (30_encoding.md R108) -/

/-- `INIT`. -/
def initWord : LedWord := 0x100000000000

/-- `CLEAR`. -/
def clearWord : LedWord := 0x300000000000

/-- `FLUSH`. -/
def flushWord : LedWord := 0x400000000000

/-- `SET_PIXEL POS(c), COLOR(c)`. -/
def colourWord (cfg : Config) (c : Colour) : LedWord :=
  let rgb := colourRgb cfg c
  setPixelWord (colourPos cfg c) rgb.1 rgb.2.1 rgb.2.2

/-! ## Values the sequencer computes -/

/-- Points of a hit after `us` microseconds: 700 less the whole milliseconds elapsed (43_game_fsm.md
R260). -/
def pointsAt (us : Nat) : BitVec 16 := BitVec.ofNat 16 (windowMs - us / 1000)

/-- The verdict screen of a score (R284). -/
def verdictScreen (score : BitVec 16) : BitVec 4 :=
  if score.toNat < threshMed then 3 else if score.toNat < threshHigh then 4 else 5

/-! ## What the sequencer drives in step `u` (43_game_fsm.md R221 to R223) -/

/-- `led_cmd` when `led_cmd_valid` = 1 in step `u`, none when it is 0 (R221). -/
def ledDrive (u : StepCode) (s : State) : Option LedWord :=
  match u.toNat with
  | 0 => some initWord                              -- BOOT_INIT
  | 7 => some (colourWord s.cfg s.seq.slot)         -- CD_SET
  | 8 | 12 | 17 | 33 => some flushWord              -- CD_FLUSH1, CD_FLUSH2, RW_FLUSH, RES_FLUSH
  | 11 | 32 => some clearWord                       -- CD_CLR, RES_CLR
  | 16 => some (colourWord s.cfg s.seq.target)      -- RW_SET
  | _ => none

/-- `latch_op` in step `u` (R222): CLEAR_ALL in IDLE_EXIT, RW_CLR and GO_EXIT, and in the completing cycle
of RW_DRAW when `CLEAR_FLAGS_AT_WINDOW` is set. -/
def latchDrive (u : StepCode) (s : State) : LatchWord :=
  match u.toNat with
  | 4 | 25 | 38 => 0b01
  | 15 => if s.cfg.clearFlagsAtWindow ∧ s.pins.rnd.toNat ≤ 2 then 0b01 else 0b00
  | _ => 0b00

/-- The tone request in step `u`, none when `tone_valid` is 0 (R223, 30_encoding.md R109). -/
def toneDrive (u : StepCode) (s : State) : Option ToneWord :=
  match u.toNat with
  | 20 => some (toneWord 800 100 s.cfg.volSuccess)
  | 21 => some (toneWord 1000 100 s.cfg.volSuccess)
  | 22 => some (toneWord 1200 100 s.cfg.volSuccess)
  | 27 => some (toneWord 400 300 s.cfg.volFail)
  | 28 => some (toneWord 300 300 s.cfg.volFail)
  | _ => none

/-- The display request in step `u`, none when `disp_valid` is 0 (R223, R235, R241, R285). -/
def dispDrive (u : StepCode) (s : State) : Option DispWord :=
  match u.toNat with
  | 2 => some (dispWord 1 s.seq.score)
  | 5 => some (dispWord 2 s.seq.score)
  | 36 => some (dispWord (verdictScreen s.seq.score) s.seq.score)
  | _ => none

end Sys2Proof.Machine
end

