-- ==== Sys2Proof/Machine/Ops.lean ====
section
/-! DEFINITION. The named operations over the frame buffer, the LED driver, the timer and the collaborator
ports, raising an error, one clock edge of the whole block, reset, and what a step adds around an
instruction. -/

namespace Sys2Proof.Machine

/-! ## The frame buffer (20_memory.md R61, R69) -/

/-- `FB[i]`, none where the element has no value (10_state.md R26; log 5). -/
def Memory.read : Memory → Nat → Option Pixel
  | [], _ => none
  | (j, v) :: m, i => if j = i then some v else Memory.read m i

/-- `FB[i] <- v`. -/
def Memory.write : Memory → Nat → Pixel → Memory
  | [], i, v => [(i, v)]
  | (j, w) :: m, i, v =>
    if i < j then (i, v) :: (j, w) :: m
    else if i = j then (i, v) :: m
    else (j, w) :: Memory.write m i v

/-- Every element of a buffer of `n` elements at `v`. -/
def Memory.fill (n : Nat) (v : Pixel) : Memory := (List.range n).map fun i => (i, v)

/-- The canonical form: indices strictly rising. An unlisted index has no value, so no listed element
equals what an unlisted one reads as. -/
def Memory.wf : Memory → Bool
  | [] => true
  | [_] => true
  | (i, _) :: (j, w) :: m => decide (i < j) && Memory.wf ((j, w) :: m)

/-! ## Errors: the only exceptions of GAC (60_exceptions.md R300 to R304) -/

/-- The error codes of R302. -/
inductive LedError where
  | range | notInit | illegal | noChannel
deriving DecidableEq, Repr

/-- The bit of `err` an error sets (R302: the bit index is the code). -/
def errorBit : LedError → BitVec 4
  | .range => 0b0001
  | .notInit => 0b0010
  | .illegal => 0b0100
  | .noChannel => 0b1000

/-- `raise Error(code)`: sets the sticky bit and suppresses every other effect (R301). -/
def Led.raiseError (e : LedError) (l : Led) : Led := { l with err := l.err ||| errorBit e }

/-- `raise Fatal(NO_CHANNEL)`: in addition the driver moves to FATAL (R304). -/
def Led.raiseFatal (l : Led) : Led := { l.raiseError .noChannel with st := .fatal }

/-! ## LED commands as the driver executes them on acceptance (40_led_driver.md R122 to R136) -/

/-- `NOP` (R133). -/
def Led.nopCmd (l : Led) : Led := l

/-- `INIT`: from UNINIT it claims the channel or fails fatally (R125), from IDLE it clears (R126). -/
def Led.initCmd (c : Config) (l : Led) : Led :=
  if l.st = .uninit then
    if c.ledChanAvail then { l with fb := Memory.fill c.pixels 0, st := .idle } else l.raiseFatal
  else { l with fb := Memory.fill c.pixels 0 }

/-- `SET_PIXEL` (R130), NOT_INIT before RANGE (R122, R128, R131); the element is `{g, r, b}` (R63). -/
def Led.setPixelCmd (c : Config) (idx : BitVec 16) (r g b : BitVec 8) (l : Led) : Led :=
  if l.st = .uninit then l.raiseError .notInit
  else if c.pixels ≤ idx.toNat then l.raiseError .range
  else { l with fb := l.fb.write idx.toNat (g ++ r ++ b) }

/-- `CLEAR` (R134, R128). -/
def Led.clearCmd (c : Config) (l : Led) : Led :=
  if l.st = .uninit then l.raiseError .notInit else { l with fb := Memory.fill c.pixels 0 }

/-- `FLUSH` (R136, R128). -/
def Led.flushCmd (l : Led) : Led :=
  if l.st = .uninit then l.raiseError .notInit
  else { l with st := .tx, pix := 0, bit := 23, cnt := 0 }

/-- An illegal word (R132). -/
def Led.illegalCmd (l : Led) : Led := l.raiseError .illegal

/-- The effect of an accepted command (R122). -/
def Led.run (c : Config) : LedCmd → Led → Led
  | .nop => Led.nopCmd
  | .init => Led.initCmd c
  | .setPixel idx r g b => Led.setPixelCmd c idx r g b
  | .clear => Led.clearCmd c
  | .flush => Led.flushCmd
  | .illegal => Led.illegalCmd

/-! ## The serializer (R138 to R143) -/

/-- One cycle of a symbol (R139, R140). -/
def Led.txCycle (c : Config) (l : Led) : Led :=
  if l.cnt.toNat = c.symCycles - 1 then
    if l.bit = 0 then
      if l.pix.toNat = c.pixels - 1 then { l with st := .latch, cnt := 0 }
      else { l with pix := l.pix + 1, bit := 23, cnt := 0 }
    else { l with bit := l.bit - 1, cnt := 0 }
  else { l with cnt := l.cnt + 1 }

/-- One cycle of the hold (R141). -/
def Led.latchCycle (c : Config) (l : Led) : Led :=
  if l.cnt.toNat = c.resetCycles - 1 then { l with st := .idle, cnt := 0 } else { l with cnt := l.cnt + 1 }

/-- One edge of the LED driver: accept the command presented if the port is ready, else advance the
serializer, else hold (R121, R123, R143). -/
def Led.cycle (c : Config) (cmd : Option LedCmd) (l : Led) : Led :=
  match l.st with
  | .uninit | .idle =>
    match cmd with
    | some k => Led.run c k l
    | none => l
  | .tx => l.txCycle c
  | .latch => l.latchCycle c
  | .fatal => l

/-- Whether the bit the serializer reads in this cycle exists (20_memory.md R61, 10_state.md R27; log 8). -/
def Led.readsInRange (c : Config) (l : Led) : Bool :=
  decide (l.st = .tx → l.pix.toNat < c.pixels ∧ l.bit.toNat < 24)

/-- The data bit `FB[pix][bit]` (R138); of an element without a value, a free value (log 7). -/
def Led.dataBit (l : Led) : Bool :=
  ((l.fb.read l.pix.toNat).getD (Config.freePixel l.pix.toNat)).getLsbD l.bit.toNat

/-! ## The timer (43_game_fsm.md R217) -/

/-- One edge of the timer. -/
def Timer.tick (c : Config) (t : Timer) : Timer :=
  if t.presc = c.clkPerUs - 1 then { presc := 0, us := t.us + 1 } else { t with presc := t.presc + 1 }

/-! ## One clock edge of the whole block (00_scope.md R7, R16) -/

/-- What stands on the four internal and collaborator ports in a cycle (43_game_fsm.md R220). -/
structure Drives where
  led : Option LedCmd := none
  latch : LatchWord := 0b00
  tone : Option ToneWord := none
  disp : Option DispWord := none
deriving DecidableEq, Repr

/-- The collaborators' side of a cycle: a request is transferred when its ready is 1 (42_collaborators.md
R192, R197; log 17). -/
def Collab.cycle (d : Drives) (p : Pins) (k : Collab) : Collab :=
  { toneLast := if p.toneReady ∧ d.tone.isSome then d.tone else k.toneLast
    toneDone := if p.toneReady ∧ d.tone.isSome then k.toneDone + 1 else k.toneDone
    dispLast := if p.dispReady ∧ d.disp.isSome then d.disp else k.dispLast
    dispDone := if p.dispReady ∧ d.disp.isSome then k.dispDone + 1 else k.dispDone }

/-- The block after an edge at which the ports carry `d` and the sequencer's registers become `q`: every
sub-block updates from the values of the same cycle (00_scope.md R16). -/
def State.clocked (d : Drives) (q : Seq) (s : State) : State :=
  { s with
    led := s.led.cycle s.cfg d.led
    latch := s.latch.cycle s.cfg d.latch s.sampleA s.sampleB
    timer := s.timer.tick s.cfg
    seq := q
    collab := s.collab.cycle d s.pins }

/-- One edge, or a fault where the serializer's read does not exist (log 8). -/
def clockEdge (d : Drives) (q : Seq) (s : State) : Result :=
  if s.led.readsInRange s.cfg then .next (s.clocked d q) else .fault .serializerRange

/-- A cycle in which a client's word stands on a port: the client replaces the sequencer, whose registers
hold (30_encoding.md R95; log 12). -/
def clientEdge (d : Drives) (s : State) : Result := clockEdge d s.seq s

/-- What the sequencer drives in step `u` (43_game_fsm.md R221 to R223). -/
def stepDrives (u : StepCode) (s : State) : Drives :=
  { led := (ledDrive u s).map decodeLcmd
    latch := latchDrive u s
    tone := toneDrive u s
    disp := dispDrive u s }

/-- The step template (43_game_fsm.md R220): step `u` drives its requests; when its condition `done` holds
the sequencer's registers become `q`, else they hold. -/
def stepEdge (u : StepCode) (done : Bool) (q : Seq) (s : State) : Result :=
  clockEdge (stepDrives u s) (if done then q else s.seq) s

/-! ## Reset and what a step adds around an instruction -/

/-- An edge with `rst` = 1 (70_reset_and_hazards.md R330 to R332): every register takes its reset value,
`FB` has no value, nothing presented has an effect. The client holds (log 25). -/
def State.resetEdge (s : State) : State :=
  { s with
    led := Led.atReset
    latch := Latch.atReset s.cfg
    timer := Timer.atReset
    seq := Seq.atReset
    env := s.env.tail
    cycle := s.cycle + 1 }

/-- The instruction of a cycle: a client's word, else the step `upc` selects (43_game_fsm.md R220). -/
def State.fetch (s : State) : Except Reject Instr :=
  match s.clientWord with
  | some p => decode (.port p)
  | none => decode (.step s.seq.upc)

/-- Around an instruction, the client passes to its next line and the inputs to the next cycle. -/
def State.advance (s t : State) : State :=
  { t with client := s.nextClient, env := s.env.tail, cycle := s.cycle + 1 }

/-- `advance` on a next state; a stop stays as it is. -/
def State.carry (s : State) : Result → Result
  | .next t => .next (s.advance t)
  | .fault f => .fault f
  | .refused r => .refused r

/-- The state with a word of the opcode table placed where the next step takes its instruction: a step
code in `upc`, any other word as the client's only line; `rst` is 0 in that cycle (log 23). -/
def State.placeWord (s : State) (e : Encoding) : State :=
  let s := { s with env := { s.pins with rst := false } :: s.env.tail }
  match e with
  | .step u => { s with seq := { s.seq with upc := u }, client := { s.client with script := [] } }
  | .port p => { s with client := { s.client with script := [.word p] } }

end Sys2Proof.Machine
end

