-- ==== Sys2Proof/Machine/LatchOps.lean ====
section
/-! DEFINITION. The latch operations (41_input_latch.md R174 to R176): one cycle in which `latch_op` has
the operation's code. The flags follow R170 to R172 in every cycle. -/

namespace Sys2Proof.Machine

/-- One cycle with a code on `latch_op`. -/
def presentLatch (op : LatchWord) (s : State) : Result := clientEdge { latch := op } s

/-- `NONE`, which is also `read()` (R174). -/
def execLatchNone (s : State) : Result := presentLatch 0b00 s

/-- `CLEAR_ALL` (R175, R173). -/
def execLatchClearAll (s : State) : Result := presentLatch 0b01 s

/-- The reserved codes `10` and `11`, which act as `NONE` (R176; log 10). -/
def execLatchReserved (low : Bool) (s : State) : Result :=
  presentLatch (0b1#1 ++ BitVec.ofBool low) s

end Sys2Proof.Machine
end

