-- ==== Sys2Proof/Machine/LedCommands.lean ====
section
/-! DEFINITION. The LED commands (40_led_driver.md): one cycle in which the command stands on the LED port.
It is accepted when `led_cmd_ready` = 1 and has the effect of R122; otherwise it is held and the driver
goes on (R121, R123). -/

namespace Sys2Proof.Machine

/-- One cycle with a command on the LED port. -/
def presentLed (k : LedCmd) (s : State) : Result := clientEdge { led := some k } s

/-- `NOP` (R133). -/
def execNop (s : State) : Result := presentLed .nop s

/-- `INIT` (R125, R126, R127, 60_exceptions.md R304). -/
def execInit (s : State) : Result := presentLed .init s

/-- `SET_PIXEL idx, r, g, b` (R130, R131, R128). -/
def execSetPixel (idx : BitVec 16) (r g b : BitVec 8) (s : State) : Result :=
  presentLed (.setPixel idx r g b) s

/-- `CLEAR` (R134, R128). -/
def execClear (s : State) : Result := presentLed .clear s

/-- `FLUSH` (R136, R128). -/
def execFlush (s : State) : Result := presentLed .flush s

/-- A malformed word: `ILLEGAL`, as the hardware does (R132, 60_exceptions.md R309; log 9). -/
def execLcmdReserved (_w : LedWord) (s : State) : Result := presentLed .illegal s

end Sys2Proof.Machine
end

