-- ==== Sys2Proof/Machine/Requests.lean ====
section
/-! DEFINITION. The collaborator requests (42_collaborators.md): one cycle in which a tone or display request
stands on its port, transferred when the collaborator is ready (R192, R197), and the status-LED write
(R199), which has no handshake. -/

namespace Sys2Proof.Machine

/-- One cycle with a tone request on the tone port. -/
def presentTone (freq dur : BitVec 16) (vol : BitVec 8) (s : State) : Result :=
  clientEdge { tone := some (toneWord freq dur vol) } s

/-- One cycle with a display request on the display port. -/
def presentDisp (screen : BitVec 4) (score : BitVec 16) (s : State) : Result :=
  clientEdge { disp := some (dispWord screen score) } s

/-- First success tone, 800 Hz, 100 ms (43_game_fsm.md R263). -/
def execToneRwT1 (vol : BitVec 8) (s : State) : Result := presentTone 800 100 vol s

/-- Second success tone, 1000 Hz, 100 ms (R264). -/
def execToneRwT2 (vol : BitVec 8) (s : State) : Result := presentTone 1000 100 vol s

/-- Third success tone, 1200 Hz, 100 ms (R265). -/
def execToneRwT3 (vol : BitVec 8) (s : State) : Result := presentTone 1200 100 vol s

/-- First failure tone, 400 Hz, 300 ms (R273). -/
def execToneResT1 (vol : BitVec 8) (s : State) : Result := presentTone 400 300 vol s

/-- Second failure tone, 300 Hz, 300 ms (R274). -/
def execToneResT2 (vol : BitVec 8) (s : State) : Result := presentTone 300 300 vol s

/-- Screen `PROMPT` (R235, 30_encoding.md R101). -/
def execDispPrompt (score : BitVec 16) (s : State) : Result := presentDisp 1 score s

/-- Screen `LEGEND` (R241, 30_encoding.md R101). -/
def execDispLegend (score : BitVec 16) (s : State) : Result := presentDisp 2 score s

/-- Screen `VERDICT_LOW` (R285, 30_encoding.md R101). -/
def execDispVerdictLow (score : BitVec 16) (s : State) : Result := presentDisp 3 score s

/-- Screen `VERDICT_MED` (R285, 30_encoding.md R101). -/
def execDispVerdictMed (score : BitVec 16) (s : State) : Result := presentDisp 4 score s

/-- Screen `VERDICT_HIGH` (R285, 30_encoding.md R101). -/
def execDispVerdictHigh (score : BitVec 16) (s : State) : Result := presentDisp 5 score s

/-- `sled_r`, `sled_g`, `sled_b` <- r, g, b (42_collaborators.md R199, 30_encoding.md R102). -/
def Seq.withSled (r g b : BitVec 7) (q : Seq) : Seq := { q with sledR := r, sledG := g, sledB := b }

/-- A write of the status-LED outputs; percentages over 100 do not exist (30_encoding.md R102,
93_implementation_defined.md item 9; log 14). -/
def execSled (r g b : BitVec 7) (s : State) : Result :=
  if percentsOk r g b then clockEdge {} (s.seq.withSled r g b) s
  else .refused (.rejected .sledPercent)

end Sys2Proof.Machine
end

