-- ==== Sys2Proof/Machine/StepsCountdown.lean ====
section
/-! DEFINITION. The steps of COUNTDOWN_ANIMATION (43_game_fsm.md R240 to R250). -/

namespace Sys2Proof.Machine

/-- `CD_DISP` (R241). -/
def execStepCdDisp (s : State) : Result :=
  stepEdge 5 s.pins.dispReady { s.seq with tCd := s.timer.us, slot := .red, upc := 6 } s

/-- `CD_CHECK` (R242). -/
def execStepCdCheck (s : State) : Result :=
  stepEdge 6 true { s.seq with upc := if deadline s.timer.us s.seq.tCd countdownUs then 15 else 7 } s

/-- `CD_SET` (R243): drives SET_PIXEL of the slot's position and colour. -/
def execStepCdSet (s : State) : Result :=
  stepEdge 7 s.led.ready { s.seq with upc := 8 } s

/-- `CD_FLUSH1` (R244). -/
def execStepCdFlush1 (s : State) : Result :=
  stepEdge 8 s.led.ready { s.seq with upc := 9 } s

/-- `CD_FWAIT1` (R245): waits for the flush. -/
def execStepCdFwait1 (s : State) : Result :=
  stepEdge 9 s.led.isIdle { s.seq with t0 := s.timer.us, upc := 10 } s

/-- `CD_ON` (R246). -/
def execStepCdOn (s : State) : Result :=
  stepEdge 10 (deadline s.timer.us s.seq.t0 countdownOnUs) { s.seq with upc := 11 } s

/-- `CD_CLR` (R247). -/
def execStepCdClr (s : State) : Result :=
  stepEdge 11 s.led.ready { s.seq with upc := 12 } s

/-- `CD_FLUSH2` (R248). -/
def execStepCdFlush2 (s : State) : Result :=
  stepEdge 12 s.led.ready { s.seq with upc := 13 } s

/-- `CD_FWAIT2` (R249): waits for the flush. -/
def execStepCdFwait2 (s : State) : Result :=
  stepEdge 13 s.led.isIdle { s.seq with t0 := s.timer.us, upc := 14 } s

/-- `CD_OFF` (R250, R240). -/
def execStepCdOff (s : State) : Result :=
  stepEdge 14 (deadline s.timer.us s.seq.t0 countdownOffUs)
    { s.seq with slot := nextSlot s.seq.slot, upc := 6 } s

end Sys2Proof.Machine
end

