-- ==== Sys2Proof/Machine/StepsHalt.lean ====
section
/-! DEFINITION. `FATAL_HALT` and the 24 unused step values, which behave as it does (43_game_fsm.md R290,
30_encoding.md R107; log 11). -/

namespace Sys2Proof.Machine

/-- A step that drives nothing and never completes (R290). -/
def haltEdge (u : StepCode) (s : State) : Result := stepEdge u false s.seq s

/-- `FATAL_HALT` (R290). -/
def execStepFatalHalt (s : State) : Result := haltEdge 63 s

/-- The unused value 39 (R107). -/
def execStepUnused39 (s : State) : Result := haltEdge 39 s

/-- The unused value 40 (R107). -/
def execStepUnused40 (s : State) : Result := haltEdge 40 s

/-- The unused value 41 (R107). -/
def execStepUnused41 (s : State) : Result := haltEdge 41 s

/-- The unused value 42 (R107). -/
def execStepUnused42 (s : State) : Result := haltEdge 42 s

/-- The unused value 43 (R107). -/
def execStepUnused43 (s : State) : Result := haltEdge 43 s

/-- The unused value 44 (R107). -/
def execStepUnused44 (s : State) : Result := haltEdge 44 s

/-- The unused value 45 (R107). -/
def execStepUnused45 (s : State) : Result := haltEdge 45 s

/-- The unused value 46 (R107). -/
def execStepUnused46 (s : State) : Result := haltEdge 46 s

/-- The unused value 47 (R107). -/
def execStepUnused47 (s : State) : Result := haltEdge 47 s

/-- The unused value 48 (R107). -/
def execStepUnused48 (s : State) : Result := haltEdge 48 s

/-- The unused value 49 (R107). -/
def execStepUnused49 (s : State) : Result := haltEdge 49 s

/-- The unused value 50 (R107). -/
def execStepUnused50 (s : State) : Result := haltEdge 50 s

/-- The unused value 51 (R107). -/
def execStepUnused51 (s : State) : Result := haltEdge 51 s

/-- The unused value 52 (R107). -/
def execStepUnused52 (s : State) : Result := haltEdge 52 s

/-- The unused value 53 (R107). -/
def execStepUnused53 (s : State) : Result := haltEdge 53 s

/-- The unused value 54 (R107). -/
def execStepUnused54 (s : State) : Result := haltEdge 54 s

/-- The unused value 55 (R107). -/
def execStepUnused55 (s : State) : Result := haltEdge 55 s

/-- The unused value 56 (R107). -/
def execStepUnused56 (s : State) : Result := haltEdge 56 s

/-- The unused value 57 (R107). -/
def execStepUnused57 (s : State) : Result := haltEdge 57 s

/-- The unused value 58 (R107). -/
def execStepUnused58 (s : State) : Result := haltEdge 58 s

/-- The unused value 59 (R107). -/
def execStepUnused59 (s : State) : Result := haltEdge 59 s

/-- The unused value 60 (R107). -/
def execStepUnused60 (s : State) : Result := haltEdge 60 s

/-- The unused value 61 (R107). -/
def execStepUnused61 (s : State) : Result := haltEdge 61 s

/-- The unused value 62 (R107). -/
def execStepUnused62 (s : State) : Result := haltEdge 62 s

end Sys2Proof.Machine
end

