-- ==== Sys2Proof/Machine/StepsIdle.lean ====
section
/-! DEFINITION. The steps of BOOT and IDLE_WAIT_FOR_CHORD (43_game_fsm.md R230 to R237). What a step drives
is `stepDrives` of its code (R221 to R223); a step's meaning gives its completion condition and the
sequencer's registers at completion (R220). -/

namespace Sys2Proof.Machine

/-- `BOOT_INIT` (R230): drives INIT until it is accepted. -/
def execStepBootInit (s : State) : Result :=
  stepEdge 0 s.led.ready { s.seq with upc := 1 } s

/-- `BOOT_CHK` (R231, 60_exceptions.md R305). -/
def execStepBootChk (s : State) : Result :=
  stepEdge 1 true { s.seq with upc := if s.led.isFatal then 63 else 2 } s

/-- `IDLE_DRAW` (R235). -/
def execStepIdleDraw (s : State) : Result :=
  stepEdge 2 s.pins.dispReady { s.seq with t0 := s.timer.us, upc := 3 } s

/-- `IDLE_WAIT` (R236): the chord wins over the redraw. -/
def execStepIdleWait (s : State) : Result :=
  stepEdge 3 (s.latch.outChord || deadline s.timer.us s.seq.t0 idleRefreshUs)
    { s.seq with upc := if s.latch.outChord then 4 else 2 } s

/-- `IDLE_EXIT` (R237): a fresh record, the session starts. -/
def execStepIdleExit (s : State) : Result :=
  stepEdge 4 true { s.seq with score := 0, snapshot := 0, round := 0, session := true, upc := 5 } s

end Sys2Proof.Machine
end

