-- ==== Sys2Proof/Machine/StepsResolution.lean ====
section
/-! DEFINITION. The steps of ROUND_RESOLUTION and GAME_OVER_DISPLAY (43_game_fsm.md R272 to R287). -/

namespace Sys2Proof.Machine

/-- `RES_CHK` (R272): a miss leaves the score at its snapshot. -/
def execStepResChk (s : State) : Result :=
  stepEdge 26 true { s.seq with upc := if s.seq.score = s.seq.snapshot then 27 else 31 } s

/-- `RES_T1` (R273). -/
def execStepResT1 (s : State) : Result :=
  stepEdge 27 s.pins.toneReady { s.seq with upc := 28 } s

/-- `RES_T2` (R274). -/
def execStepResT2 (s : State) : Result :=
  stepEdge 28 s.pins.toneReady { s.seq with upc := 29 } s

/-- `RES_LED` (R275, 42_collaborators.md R200). -/
def execStepResLed (s : State) : Result :=
  stepEdge 29 true
    { s.seq with sledR := s.cfg.pctRed, sledG := 0, sledB := 0, t0 := s.timer.us, upc := 30 } s

/-- `RES_HOLD` (R276). -/
def execStepResHold (s : State) : Result :=
  stepEdge 30 (deadline s.timer.us s.seq.t0 holdUs) { s.seq with upc := 31 } s

/-- `RES_OFF` (R277, 42_collaborators.md R200). -/
def execStepResOff (s : State) : Result :=
  stepEdge 31 true { s.seq with sledR := 0, sledG := 0, sledB := 0, upc := 32 } s

/-- `RES_CLR` (R278). -/
def execStepResClr (s : State) : Result :=
  stepEdge 32 s.led.ready { s.seq with upc := 33 } s

/-- `RES_FLUSH` (R279). -/
def execStepResFlush (s : State) : Result :=
  stepEdge 33 s.led.ready { s.seq with upc := 34 } s

/-- `RES_FWAIT` (R280): waits for the flush. -/
def execStepResFwait (s : State) : Result :=
  stepEdge 34 s.led.isIdle { s.seq with upc := 35 } s

/-- `RES_NEXT` (R281): after the tenth round the verdict, else the next countdown. -/
def execStepResNext (s : State) : Result :=
  stepEdge 35 true
    { s.seq with
      round := s.seq.round + 1
      upc := if s.seq.round + 1 = roundsPerSession then 36 else 5 } s

/-- `GO_DRAW` (R285): drives the verdict screen of the score. -/
def execStepGoDraw (s : State) : Result :=
  stepEdge 36 s.pins.dispReady { s.seq with upc := 37 } s

/-- `GO_CHK` (R286). -/
def execStepGoChk (s : State) : Result :=
  stepEdge 37 true
    { s.seq with upc := if s.latch.outA s.cfg || s.latch.outB s.cfg then 38 else 36 } s

/-- `GO_EXIT` (R287). -/
def execStepGoExit (s : State) : Result :=
  stepEdge 38 true { s.seq with score := 0, round := 0, session := false, upc := 2 } s

end Sys2Proof.Machine
end

