-- ==== Sys2Proof/Machine/StepsWindow.lean ====
section
/-! DEFINITION. The steps of REACTION_WINDOW (43_game_fsm.md R255 to R268). -/

namespace Sys2Proof.Machine

/-- `RW_DRAW` (R255): a `rnd_val` of 3 is no colour and the step waits (42_collaborators.md R201). -/
def execStepRwDraw (s : State) : Result :=
  match colourOf s.pins.rnd with
  | some c => stepEdge 15 true { s.seq with target := c, snapshot := s.seq.score, upc := 16 } s
  | none => stepEdge 15 false s.seq s

/-- `RW_SET` (R256): drives SET_PIXEL of the target's position and colour. -/
def execStepRwSet (s : State) : Result :=
  stepEdge 16 s.led.ready { s.seq with upc := 17 } s

/-- `RW_FLUSH` (R257). -/
def execStepRwFlush (s : State) : Result :=
  stepEdge 17 s.led.ready { s.seq with upc := 18 } s

/-- `RW_FWAIT` (R258): waits for the flush and records the entry time. -/
def execStepRwFwait (s : State) : Result :=
  stepEdge 18 s.led.isIdle { s.seq with tE := s.timer.us, upc := 19 } s

/-- `RW_POLL` (R259, R260): the deadline first, then the hit. -/
def execStepRwPoll (s : State) : Result :=
  if deadline s.timer.us s.seq.tE windowUs then stepEdge 19 true { s.seq with upc := 26 } s
  else
    stepEdge 19 s.hit
      { s.seq with score := s.seq.score + pointsAt (elapsed s.timer.us s.seq.tE), upc := 20 } s

/-- `RW_T1` (R263). -/
def execStepRwT1 (s : State) : Result :=
  stepEdge 20 s.pins.toneReady { s.seq with upc := 21 } s

/-- `RW_T2` (R264). -/
def execStepRwT2 (s : State) : Result :=
  stepEdge 21 s.pins.toneReady { s.seq with upc := 22 } s

/-- `RW_T3` (R265). -/
def execStepRwT3 (s : State) : Result :=
  stepEdge 22 s.pins.toneReady { s.seq with upc := 23 } s

/-- `RW_LED` (R266, 42_collaborators.md R200). -/
def execStepRwLed (s : State) : Result :=
  stepEdge 23 true
    { s.seq with sledR := 0, sledG := s.cfg.pctGreen, sledB := 0, t0 := s.timer.us, upc := 24 } s

/-- `RW_HOLD` (R267). -/
def execStepRwHold (s : State) : Result :=
  stepEdge 24 (deadline s.timer.us s.seq.t0 holdUs) { s.seq with upc := 25 } s

/-- `RW_CLR` (R268). -/
def execStepRwClr (s : State) : Result :=
  stepEdge 25 true { s.seq with upc := 26 } s

end Sys2Proof.Machine
end

