-- ==== Sys2Proof/Machine/Dispatch.lean ====
section
/-! DEFINITION. One arm per instruction, each a direct call of its meaning. -/

namespace Sys2Proof.Machine

/-- One clock edge of GAC in which the instruction `i` is performed. -/
def exec (i : Instr) (s : State) : Host.Outcome State Fault Refusal :=
  match i with
  | .nop => Sys2Proof.Machine.execNop s
  | .init => Sys2Proof.Machine.execInit s
  | .setPixel idx r g b => Sys2Proof.Machine.execSetPixel idx r g b s
  | .clear => Sys2Proof.Machine.execClear s
  | .flush => Sys2Proof.Machine.execFlush s
  | .lcmdReserved w => Sys2Proof.Machine.execLcmdReserved w s
  | .latchNone => Sys2Proof.Machine.execLatchNone s
  | .latchClearAll => Sys2Proof.Machine.execLatchClearAll s
  | .latchReserved low => Sys2Proof.Machine.execLatchReserved low s
  | .toneRwT1 vol => Sys2Proof.Machine.execToneRwT1 vol s
  | .toneRwT2 vol => Sys2Proof.Machine.execToneRwT2 vol s
  | .toneRwT3 vol => Sys2Proof.Machine.execToneRwT3 vol s
  | .toneResT1 vol => Sys2Proof.Machine.execToneResT1 vol s
  | .toneResT2 vol => Sys2Proof.Machine.execToneResT2 vol s
  | .dispPrompt score => Sys2Proof.Machine.execDispPrompt score s
  | .dispLegend score => Sys2Proof.Machine.execDispLegend score s
  | .dispVerdictLow score => Sys2Proof.Machine.execDispVerdictLow score s
  | .dispVerdictMed score => Sys2Proof.Machine.execDispVerdictMed score s
  | .dispVerdictHigh score => Sys2Proof.Machine.execDispVerdictHigh score s
  | .sled r g b => Sys2Proof.Machine.execSled r g b s
  | .stepBootInit => Sys2Proof.Machine.execStepBootInit s
  | .stepBootChk => Sys2Proof.Machine.execStepBootChk s
  | .stepIdleDraw => Sys2Proof.Machine.execStepIdleDraw s
  | .stepIdleWait => Sys2Proof.Machine.execStepIdleWait s
  | .stepIdleExit => Sys2Proof.Machine.execStepIdleExit s
  | .stepCdDisp => Sys2Proof.Machine.execStepCdDisp s
  | .stepCdCheck => Sys2Proof.Machine.execStepCdCheck s
  | .stepCdSet => Sys2Proof.Machine.execStepCdSet s
  | .stepCdFlush1 => Sys2Proof.Machine.execStepCdFlush1 s
  | .stepCdFwait1 => Sys2Proof.Machine.execStepCdFwait1 s
  | .stepCdOn => Sys2Proof.Machine.execStepCdOn s
  | .stepCdClr => Sys2Proof.Machine.execStepCdClr s
  | .stepCdFlush2 => Sys2Proof.Machine.execStepCdFlush2 s
  | .stepCdFwait2 => Sys2Proof.Machine.execStepCdFwait2 s
  | .stepCdOff => Sys2Proof.Machine.execStepCdOff s
  | .stepRwDraw => Sys2Proof.Machine.execStepRwDraw s
  | .stepRwSet => Sys2Proof.Machine.execStepRwSet s
  | .stepRwFlush => Sys2Proof.Machine.execStepRwFlush s
  | .stepRwFwait => Sys2Proof.Machine.execStepRwFwait s
  | .stepRwPoll => Sys2Proof.Machine.execStepRwPoll s
  | .stepRwT1 => Sys2Proof.Machine.execStepRwT1 s
  | .stepRwT2 => Sys2Proof.Machine.execStepRwT2 s
  | .stepRwT3 => Sys2Proof.Machine.execStepRwT3 s
  | .stepRwLed => Sys2Proof.Machine.execStepRwLed s
  | .stepRwHold => Sys2Proof.Machine.execStepRwHold s
  | .stepRwClr => Sys2Proof.Machine.execStepRwClr s
  | .stepResChk => Sys2Proof.Machine.execStepResChk s
  | .stepResT1 => Sys2Proof.Machine.execStepResT1 s
  | .stepResT2 => Sys2Proof.Machine.execStepResT2 s
  | .stepResLed => Sys2Proof.Machine.execStepResLed s
  | .stepResHold => Sys2Proof.Machine.execStepResHold s
  | .stepResOff => Sys2Proof.Machine.execStepResOff s
  | .stepResClr => Sys2Proof.Machine.execStepResClr s
  | .stepResFlush => Sys2Proof.Machine.execStepResFlush s
  | .stepResFwait => Sys2Proof.Machine.execStepResFwait s
  | .stepResNext => Sys2Proof.Machine.execStepResNext s
  | .stepGoDraw => Sys2Proof.Machine.execStepGoDraw s
  | .stepGoChk => Sys2Proof.Machine.execStepGoChk s
  | .stepGoExit => Sys2Proof.Machine.execStepGoExit s
  | .stepUnused39 => Sys2Proof.Machine.execStepUnused39 s
  | .stepUnused40 => Sys2Proof.Machine.execStepUnused40 s
  | .stepUnused41 => Sys2Proof.Machine.execStepUnused41 s
  | .stepUnused42 => Sys2Proof.Machine.execStepUnused42 s
  | .stepUnused43 => Sys2Proof.Machine.execStepUnused43 s
  | .stepUnused44 => Sys2Proof.Machine.execStepUnused44 s
  | .stepUnused45 => Sys2Proof.Machine.execStepUnused45 s
  | .stepUnused46 => Sys2Proof.Machine.execStepUnused46 s
  | .stepUnused47 => Sys2Proof.Machine.execStepUnused47 s
  | .stepUnused48 => Sys2Proof.Machine.execStepUnused48 s
  | .stepUnused49 => Sys2Proof.Machine.execStepUnused49 s
  | .stepUnused50 => Sys2Proof.Machine.execStepUnused50 s
  | .stepUnused51 => Sys2Proof.Machine.execStepUnused51 s
  | .stepUnused52 => Sys2Proof.Machine.execStepUnused52 s
  | .stepUnused53 => Sys2Proof.Machine.execStepUnused53 s
  | .stepUnused54 => Sys2Proof.Machine.execStepUnused54 s
  | .stepUnused55 => Sys2Proof.Machine.execStepUnused55 s
  | .stepUnused56 => Sys2Proof.Machine.execStepUnused56 s
  | .stepUnused57 => Sys2Proof.Machine.execStepUnused57 s
  | .stepUnused58 => Sys2Proof.Machine.execStepUnused58 s
  | .stepUnused59 => Sys2Proof.Machine.execStepUnused59 s
  | .stepUnused60 => Sys2Proof.Machine.execStepUnused60 s
  | .stepUnused61 => Sys2Proof.Machine.execStepUnused61 s
  | .stepUnused62 => Sys2Proof.Machine.execStepUnused62 s
  | .stepFatalHalt => Sys2Proof.Machine.execStepFatalHalt s

end Sys2Proof.Machine
end

