-- ==== Sys2Proof/Machine/Step.lean ====
section
/-! DEFINITION. One step: one rising edge of `clk` (00_scope.md R7). -/

namespace Sys2Proof.Machine

/-- With `rst` = 1 every register takes its reset value; otherwise the cycle's instruction is performed and
the client and the inputs pass to the next cycle. -/
def step (s : State) : Host.Outcome State Fault Refusal :=
  if s.pins.rst then .next s.resetEdge
  else
    match s.fetch with
    | .ok i => s.carry (exec i s)
    | .error why => .refused (.rejected why)

/-- The state with a word of the opcode table where the next step takes its instruction; unchanged where
`nbits` names no port (log 15, log 23). -/
def State.withFetchWord (s : State) (nbits w : Nat) : State :=
  match tableEncoding nbits w with
  | some e => s.placeWord e
  | none => s

end Sys2Proof.Machine
end

