-- ==== Sys2Proof/Machine/Outputs.lean ====
section
/-! DEFINITION. The outputs of a cycle, functions of the registers of the same cycle (10_state.md R49 to
R52, R55 to R57). Reading them has no side effect. -/

namespace Sys2Proof.Machine

/-! ## The LED line (40_led_driver.md R142, 30_encoding.md R103) -/

/-- `TH(d)`. -/
def highTime (c : Config) (d : Bool) : Nat := if d then c.t1hCycles else c.t0hCycles

/-- `led_dout`. -/
def State.ledDout (s : State) : Bool :=
  decide (s.led.st = .tx ∧ s.led.cnt.toNat < highTime s.cfg s.led.dataBit)

/-! ## Ports -/

/-- The word on the LED command port, none when `led_cmd_valid` = 0 (43_game_fsm.md R221; a client replaces
the sequencer, log 12). -/
def State.ledPort (s : State) : Option LedWord :=
  match s.clientWord with
  | some (.lcmd w) => some w
  | some _ => none
  | none => ledDrive s.seq.upc s

/-- `latch_op` (43_game_fsm.md R222). -/
def State.latchPort (s : State) : LatchWord :=
  match s.clientWord with
  | some (.latch w) => w
  | some _ => 0b00
  | none => latchDrive s.seq.upc s

/-- The tone request, none when `tone_valid` = 0 (42_collaborators.md R191). -/
def State.tonePort (s : State) : Option ToneWord :=
  match s.clientWord with
  | some (.tone w) => some w
  | some _ => none
  | none => toneDrive s.seq.upc s

/-- The display request, none when `disp_valid` = 0 (42_collaborators.md R195). -/
def State.dispPort (s : State) : Option DispWord :=
  match s.clientWord with
  | some (.disp w) => some w
  | some _ => none
  | none => dispDrive s.seq.upc s

/-- `led_cmd_valid`. -/
def State.ledCmdValid (s : State) : Bool := s.ledPort.isSome

/-- `led_cmd`, 0 when not valid (R221). -/
def State.ledCmd (s : State) : LedWord := s.ledPort.getD 0

/-- `tone_valid`. -/
def State.toneValid (s : State) : Bool := s.tonePort.isSome

/-- `tone_freq`, 0 when not valid (R191). -/
def State.toneFreq (s : State) : BitVec 16 := (s.tonePort.getD 0).extractLsb' 24 16

/-- `tone_dur`, 0 when not valid (R191). -/
def State.toneDur (s : State) : BitVec 16 := (s.tonePort.getD 0).extractLsb' 8 16

/-- `tone_vol`, 0 when not valid (R191). -/
def State.toneVol (s : State) : BitVec 8 := (s.tonePort.getD 0).extractLsb' 0 8

/-- `disp_valid`. -/
def State.dispValid (s : State) : Bool := s.dispPort.isSome

/-- `disp_screen`, 0 when not valid (R195). -/
def State.dispScreen (s : State) : BitVec 4 := (s.dispPort.getD 0).extractLsb' 16 4

/-- `disp_score`, 0 when not valid (R195). -/
def State.dispScore (s : State) : BitVec 16 := (s.dispPort.getD 0).extractLsb' 0 16

/-- `{sled_r, sled_g, sled_b}` (30_encoding.md R102). -/
def State.sledOut (s : State) : SledWord := sledWord s.seq.sledR s.seq.sledG s.seq.sledB

/-- The latch's read word `{latch_chord, latch_b, latch_a}` (30_encoding.md R98). -/
def State.latchRead (s : State) : BitVec 3 :=
  BitVec.ofBool s.latch.outChord ++ BitVec.ofBool (s.latch.outB s.cfg) ++
    BitVec.ofBool (s.latch.outA s.cfg)

/-! ## Status words (10_state.md R56, R57) -/

/-- `ld_st` as its 3-bit code (10_state.md R24). -/
def ledStateCode : LedState → BitVec 3
  | .uninit => 0
  | .idle => 1
  | .tx => 2
  | .latch => 3
  | .fatal => 7

/-- `state_of(upc)` (30_encoding.md R106). -/
def stateOf (u : StepCode) : BitVec 3 :=
  if u.toNat ≤ 1 then 0
  else if u.toNat ≤ 4 then 1
  else if u.toNat ≤ 14 then 2
  else if u.toNat ≤ 25 then 3
  else if u.toNat ≤ 35 then 4
  else if u.toNat ≤ 38 then 5
  else 7

/-- `STATUS0` (10_state.md R56), bit 31 first. -/
def State.status0 (s : State) : BitVec 32 :=
  0#1 ++ colourCode s.seq.slot ++
    BitVec.ofBool (lineLevel s.cfg s.latch.syB) ++ BitVec.ofBool (lineLevel s.cfg s.latch.syA) ++
    BitVec.ofBool s.latch.heldB ++ BitVec.ofBool s.latch.heldA ++ BitVec.ofBool s.latch.chord ++
    BitVec.ofBool s.latch.flagB ++ BitVec.ofBool s.latch.flagA ++
    BitVec.ofBool s.led.isFatal ++ BitVec.ofBool s.led.isIdle ++ s.led.err ++
    colourCode s.seq.target ++ BitVec.ofBool s.seq.session ++ s.seq.round ++
    stateOf s.seq.upc ++ s.seq.upc

/-- `STATUS1` (10_state.md R57). -/
def State.status1 (s : State) : BitVec 32 := s.seq.snapshot ++ s.seq.score

end Sys2Proof.Machine
end

