-- ==== Sys2Proof/Safety.lean ====
section
/-! DEFINITION. The terms claims use: runs, what a safe run is, the invariants, what an edge leaves to the
clock alone, and the duties of the environment, which the model does not enforce (log 22). -/

namespace Sys2Proof.Machine

/-! ## Runs -/

/-- `k` steps, stopping at the first fault or refusal. -/
def State.after : Nat → State → Result
  | 0, s => .next s
  | k + 1, s =>
    match step s with
    | .next t => State.after k t
    | .fault f => .fault f
    | .refused r => .refused r

/-- A safe run: no step of it ends in a fault or a refusal. -/
def State.Safe (s : State) : Prop := ∀ k, ∃ t, s.after k = .next t

/-- The state in cycle `k` of the run from `s`, if it gets there. -/
def State.inCycle (s : State) (k : Nat) : Option State :=
  match s.after k with
  | .next t => some t
  | .fault _ => none
  | .refused _ => none

/-- `rst` is 0 in the first `k` cycles of the run from `s`. -/
def State.noResetFor (s : State) (k : Nat) : Prop :=
  ∀ j t, j < k → s.inCycle j = some t → t.pins.rst = false

/-- The input latch after one edge for each entry: `latch_op` and the two samples. -/
def Latch.after (c : Config) : List (LatchWord × Bool × Bool) → Latch → Latch
  | [], l => l
  | (op, sA, sB) :: rest, l => Latch.after c rest (l.cycle c op sA sB)

/-! ## What an edge leaves to the clock -/

/-- Outside the LED driver, the sequencer and the collaborators' record, an edge at which `latch_op` is `op`
moves the latch and the timer by their own rules and nothing else. -/
structure EdgeRest (op : LatchWord) (s t : State) : Prop where
  cfg : t.cfg = s.cfg
  latch : t.latch = s.latch.cycle s.cfg op s.sampleA s.sampleB
  timer : t.timer = s.timer.tick s.cfg
  client : t.client = s.client
  env : t.env = s.env
  cycle : t.cycle = s.cycle

/-- No LED command is presented: the driver only goes on with its frame, and no element changes. -/
structure NoLedCommand (s t : State) : Prop where
  led : t.led = s.led.cycle s.cfg none
  fb : ∀ a, t.led.fb.read a = s.led.fb.read a

/-- An edge at which nothing is driven on any port. -/
structure QuietEdge (s t : State) : Prop where
  rest : EdgeRest 0b00 s t
  noCommand : NoLedCommand s t
  noRequest : t.collab = s.collab

/-! ## Invariants -/

/-- The LED driver: the buffer is canonical and lies in 0 to N-1; it has no value before INIT and after a
failed claim, and every element has one otherwise; the serializer's counters are in range; `err[3]` is
set exactly in FATAL (10_state.md R24 to R28, 20_memory.md R61). -/
structure Led.Inv (c : Config) (l : Led) : Prop where
  wf : l.fb.wf = true
  bounded : ∀ i, (l.fb.read i).isSome = true → i < c.pixels
  noValue : l.st = .uninit ∨ l.st = .fatal → l.fb = []
  allValues : l.st = .idle ∨ l.st = .tx ∨ l.st = .latch → ∀ i, i < c.pixels → (l.fb.read i).isSome = true
  inSymbol : l.st = .tx → l.pix.toNat < c.pixels ∧ l.bit.toNat < 24 ∧ l.cnt.toNat < c.symCycles
  inHold : l.st = .latch → l.cnt.toNat < c.resetCycles
  fatalBit : l.err.getLsbD 3 = true ↔ l.st = .fatal

/-- The input latch: chains of SYNC_STAGES stages, `warm` at most S+1, and the flag invariants of
10_state.md R48. -/
structure Latch.Inv (c : Config) (l : Latch) : Prop where
  lengthA : l.syA.length = c.syncStages
  lengthB : l.syB.length = c.syncStages
  warm : l.warm ≤ c.syncStages + 1
  heldA : l.heldA = true → l.flagA = true
  heldB : l.heldB = true → l.flagB = true
  chord : l.chord = true → l.flagA = true ∧ l.flagB = true

/-- The sequencer: `upc` is a step of the table, outside a session score and round are 0, in round `r`
(counted from 0) the score is at most 700 a completed round, in GAME_OVER_DISPLAY the round is 10; the
percentages are at most 100 (10_state.md R38, R40, R44 to R46, 43_game_fsm.md R261). -/
structure Seq.Inv (q : Seq) : Prop where
  step : q.upc.toNat ≤ 38 ∨ q.upc.toNat = 63
  outside : q.upc.toNat ≤ 4 ∨ q.upc.toNat = 63 → q.score = 0 ∧ q.round = 0 ∧ q.session = false
  inSession : 5 ≤ q.upc.toNat → q.upc.toNat ≤ 38 → q.session = true
  inRound : 5 ≤ q.upc.toNat → q.upc.toNat ≤ 35 → q.round.toNat ≤ 9
  beforeAward : 5 ≤ q.upc.toNat → q.upc.toNat ≤ 19 → q.score.toNat ≤ 700 * q.round.toNat
  afterAward : 20 ≤ q.upc.toNat → q.upc.toNat ≤ 35 → q.score.toNat ≤ 700 * (q.round.toNat + 1)
  gameOver : 36 ≤ q.upc.toNat → q.upc.toNat ≤ 38 → q.round = 10 ∧ q.score.toNat ≤ 7000
  percents : q.sledR.toNat ≤ 100 ∧ q.sledG.toNat ≤ 100 ∧ q.sledB.toNat ≤ 100

/-- The invariant of the whole block, with any client. -/
structure State.Inv (s : State) : Prop where
  valid : s.cfg.Valid
  led : s.led.Inv s.cfg
  latch : s.latch.Inv s.cfg
  presc : s.timer.presc < s.cfg.clkPerUs
  seq : s.seq.Inv

/-- The states of the LED driver in which step `u` can stand when the sequencer is the port's only client
(43_game_fsm.md R225, R226, R231). -/
def ledStatesAt (u : Nat) : List LedState :=
  if u = 0 then [.uninit]
  else if u = 1 then [.idle, .fatal]
  else if u = 63 then [.fatal]
  else if u = 9 ∨ u = 13 ∨ u = 18 ∨ u = 34 then [.tx, .latch, .idle]
  else [.idle]

/-- The colour lit in the frame buffer while step `u` stands: the slot's from CD_FLUSH1 to CD_CLR, the
target's from RW_FLUSH to RES_CLR (43_game_fsm.md R243, R256). -/
def litColour (q : Seq) : Option Colour :=
  if 8 ≤ q.upc.toNat ∧ q.upc.toNat ≤ 11 then some q.slot
  else if 17 ≤ q.upc.toNat ∧ q.upc.toNat ≤ 32 then some q.target
  else none

/-- The element a lit position holds: `LED_LEVEL` on the colour's own channel, in the order G, R, B
(00_scope.md R12, 20_memory.md R63). -/
def litElement (c : Config) : Colour → Pixel
  | .red => 0#8 ++ c.ledLevel ++ 0#8
  | .green => c.ledLevel ++ 0#8 ++ 0#8
  | .blue => 0#8 ++ 0#8 ++ c.ledLevel

/-- The invariant of the assembled GAC, in which no client presents anything: besides `Inv`, the LED driver
stands where the step expects it, no error but NO_CHANNEL has occurred, and exactly the lit colour's
element differs from 0 (43_game_fsm.md R226, R243, R256; 60_exceptions.md R307). -/
structure State.AssembledInv (s : State) : Prop where
  inv : s.Inv
  noScript : s.client.script = []
  ledState : s.led.st ∈ ledStatesAt s.seq.upc.toNat
  errors : s.led.err = if s.led.st = .fatal then 0b1000 else 0
  lit : s.led.st ≠ .uninit → s.led.st ≠ .fatal → ∀ i, i < s.cfg.pixels →
    s.led.fb.read i = some (match litColour s.seq with
      | none => 0
      | some c => if i = (colourPos s.cfg c).toNat then litElement s.cfg c else 0)

/-! ## Duties of the environment (42_collaborators.md R193, R203, R204; log 22) -/

/-- The electrical constraint of a sample: if the pressed level was constant over the interval since the
last edge, the sample is that level; else it may be either (41_input_latch.md R165). -/
def SampleAllowed (levels : List Bool) (sample : Bool) : Prop :=
  ∀ v, (∀ p ∈ levels, p = v) → sample = v

/-- `TONE_TIMING` (R193): a request of d ms is transferred only in a cycle before which it has stood,
untransferred, for (d + 50) ms less one cycle. A cycle with `rst` = 1 transfers nothing. -/
def ToneTiming (s : State) : Prop :=
  ∀ k t, s.inCycle k = some t → t.toneValid = true → t.pins.toneReady = true → t.pins.rst = false →
    ∃ c0, c0 + (t.toneDur.toNat + toneGapMs) * 1000 * s.cfg.clkPerUs ≤ k + 1 ∧
      ∀ j, c0 ≤ j → j < k → ∃ u, s.inCycle j = some u ∧ u.tonePort = t.tonePort ∧
        u.pins.toneReady = false ∧ u.pins.rst = false

/-- Every tone and display request is eventually transferred, if no reset withdraws it
(70_reset_and_hazards.md R350 (a), R332). -/
def RequestsServed (s : State) : Prop :=
  (∀ k t, s.inCycle k = some t → t.toneValid = true →
    ∃ j u, k ≤ j ∧ s.inCycle j = some u ∧
      ((u.tonePort = t.tonePort ∧ u.pins.toneReady = true) ∨ u.pins.rst = true)) ∧
  (∀ k t, s.inCycle k = some t → t.dispValid = true →
    ∃ j u, k ≤ j ∧ s.inCycle j = some u ∧
      ((u.dispPort = t.dispPort ∧ u.pins.dispReady = true) ∨ u.pins.rst = true))

/-- Whenever RW_DRAW waits, `rnd_val` is eventually at most 2, if no reset ends the wait
(70_reset_and_hazards.md R350 (b)). -/
def EntropyServed (s : State) : Prop :=
  ∀ k t, s.inCycle k = some t → t.seq.upc = 15 →
    ∃ j u, k ≤ j ∧ s.inCycle j = some u ∧
      ((u.seq.upc = 15 ∧ u.pins.rnd.toNat ≤ 2) ∨ u.pins.rst = true)

end Sys2Proof.Machine
end

