-- ==== Sys2Proof/Certificates/Slice0/Obligations.lean ====
section
/-! DEFINITION. The statements about GAC. Each is a `Prop`; none is proved here.

Where a statement speaks of the block around an instruction it uses `EdgeRest`, `NoLedCommand` and
`QuietEdge` of Safety.lean: the latch, the timer and the serializer go on in every cycle, and what they do is
stated by the statements about them. A hypothesis `readsInRange` says that the serializer is not pointed at an
element that does not exist (log 8); `InvariantRulesOutFaults` states the invariant that gives it. -/

open Sys2Proof Sys2Proof.Machine

/-! ## Encoding -/

/-- Decoding the encoding of a well-formed instruction gives the instruction, with every operand at every
value its field admits (30_encoding.md sections 2, 4, 5, 7). -/
def Obligations.DecodeOfEncode : Prop :=
  ∀ i : Instr, i.wellFormed = true → decode (encode i) = .ok i

/-- A word on a port, or a step code, is the encoding of the instruction it decodes to, which is
well-formed: no two words share an instruction and no bit is dropped (30_encoding.md sections 2 to 7). -/
def Obligations.EncodeOfDecode : Prop :=
  ∀ (e : Encoding) (i : Instr), decode e = .ok i → encode i = e ∧ i.wellFormed = true

/-- R91: the LED driver executes a word as a command exactly when its opcode is at most 4, `rsv` is 0 and,
unless the opcode is SET_PIXEL's, bits 39:0 are 0; any other word is illegal. -/
def Obligations.LedWordLegalIffWellFormed : Prop :=
  ∀ w : LedWord,
    decodeLcmd w ≠ .illegal ↔
      (w.extractLsb' 44 4).toNat ≤ 4 ∧ w.extractLsb' 40 4 = 0 ∧
        (w.extractLsb' 44 4 ≠ 2 → w.extractLsb' 0 40 = 0)

/-- Words written out from the spec decode to their instructions (30_encoding.md R90, R97, R109, R101, R102,
R105; 95_test_vectors.md V7, V8). -/
def Obligations.SpecWordsDecode : Prop :=
  decode (.port (.lcmd 0x200000123456)) = .ok (.setPixel 0 0x12 0x34 0x56) ∧
  decode (.port (.lcmd 0x2100FFFF0000)) = .ok (.lcmdReserved 0x2100FFFF0000) ∧
  decode (.port (.lcmd 0x400000000001)) = .ok (.lcmdReserved 0x400000000001) ∧
  decode (.port (.latch 0b01)) = .ok .latchClearAll ∧
  decode (.port (.tone 0x04B00064A5)) = .ok (.toneRwT3 0xA5) ∧
  decode (.port (.disp 0x309C4)) = .ok (.dispVerdictLow 2500) ∧
  decode (.port (.sled 0b0000001_0000010_0000011)) = .ok (.sled 1 2 3) ∧
  decode (.step 0b010011) = .ok .stepRwPoll

/-! ## The step -/

/-- Without reset, a step performs the instruction of the cycle; around it, the client passes to its next
line and the inputs to the next cycle, and a fault stays a fault; a word the decoder rejects is refused by its
name. The instruction of a cycle is a client's word or, without one, the step `upc` selects. The model's own
choices, not the spec's: the client and its place beside the sequencer (log 12), the list of inputs and the
cycle count (log 3), and that a word the decoder rejects ends in `refused` (log 14). -/
def Obligations.StepRunsFetchedInstruction : Prop :=
  (∀ (s : State) (i : Instr), s.pins.rst = false → s.fetch = .ok i →
    (∀ t, exec i s = .next t →
      step s = .next { t with client := s.nextClient, env := s.env.tail, cycle := s.cycle + 1 }) ∧
    (∀ f, exec i s = .fault f → step s = .fault f)) ∧
  (∀ (s : State) (why : Reject), s.pins.rst = false → s.fetch = .error why →
    step s = .refused (.rejected why)) ∧
  (∀ s : State, s.clientWord = none → s.fetch = decode (.step s.seq.upc)) ∧
  (∀ (s : State) (p : PortWord), s.clientWord = some p → s.fetch = decode (.port p))

/-- R54: an edge with `rst` = 1 leaves every register at its reset value and the frame buffer without a
value, from every state; and so does `State.resetWith` under every configuration. -/
def Obligations.ResetRestoresResetValues : Prop :=
  let atReset (t : State) : Prop :=
    t.led = { st := .uninit, fb := [], pix := 0, bit := 0, cnt := 0, err := 0 } ∧
    t.latch = { syA := List.replicate t.cfg.syncStages false, syB := List.replicate t.cfg.syncStages false,
                prevA := false, prevB := false, warm := 0, flagA := false, flagB := false,
                heldA := false, heldB := false, chord := false } ∧
    t.timer = { presc := 0, us := 0 } ∧
    t.seq = { score := 0, snapshot := 0, round := 0, target := .red, slot := .red, t0 := 0, tCd := 0,
              tE := 0, session := false, upc := 0, sledR := 0, sledG := 0, sledB := 0 }
  (∀ s : State, s.pins.rst = true → ∃ t, step s = .next t ∧ atReset t ∧ t.cfg = s.cfg) ∧
  (∀ c : Config, atReset (State.resetWith c) ∧ (State.resetWith c).cfg = c)

/-! ## LED commands -/

/-- R133: the word 0 is NOP; accepted in UNINIT or IDLE it changes no register of the driver, and in TX, LATCH
and FATAL it is held off like any command. -/
def Obligations.NopChangesNoRegister : Prop :=
  decode (.port (.lcmd 0x000000000000)) = .ok .nop ∧
  (∀ s : State, s.led.st = .uninit ∨ s.led.st = .idle →
    s.accepts (.lcmd 0x000000000000) = true ∧
      ∃ t, exec .nop s = .next t ∧ t.led = s.led ∧ t.seq = s.seq ∧ t.collab = s.collab ∧
        EdgeRest 0b00 s t) ∧
  (∀ s : State, s.led.st = .tx ∨ s.led.st = .latch ∨ s.led.st = .fatal →
    s.led.readsInRange s.cfg = true →
    s.accepts (.lcmd 0x000000000000) = false ∧
      ∃ t, exec .nop s = .next t ∧ t.seq = s.seq ∧ QuietEdge s t)

/-- R125: INIT from UNINIT clears the buffer and enters IDLE when the channel is free, else it sets `err[3]`
and enters FATAL. -/
def Obligations.InitClaimsChannelOrFails : Prop :=
  ∀ s : State, s.led.st = .uninit →
    ∃ t, exec .init s = .next t ∧ t.seq = s.seq ∧ t.collab = s.collab ∧ EdgeRest 0b00 s t ∧
      (s.cfg.ledChanAvail = true →
        t.led = { s.led with st := .idle, fb := t.led.fb } ∧
        ∀ i, t.led.fb.read i = if i < s.cfg.pixels then some 0x000000 else none) ∧
      (s.cfg.ledChanAvail = false → t.led = { s.led with st := .fatal, err := s.led.err ||| 0b1000 })

/-- R126: INIT from IDLE clears the buffer and stays in IDLE, whatever the strap says. -/
def Obligations.InitAgainClearsBuffer : Prop :=
  ∀ s : State, s.led.st = .idle →
    ∃ t, exec .init s = .next t ∧ t.seq = s.seq ∧ t.collab = s.collab ∧ EdgeRest 0b00 s t ∧
      t.led = { s.led with fb := t.led.fb } ∧
      ∀ i, t.led.fb.read i = if i < s.cfg.pixels then some 0x000000 else none

/-- R130: SET_PIXEL writes `{g, r, b}` at its index and no other element. -/
def Obligations.SetPixelWritesOneElement : Prop :=
  ∀ (s : State) (idx : BitVec 16) (r g b : BitVec 8), s.led.st = .idle → idx.toNat < s.cfg.pixels →
    ∃ t, exec (.setPixel idx r g b) s = .next t ∧ t.seq = s.seq ∧ t.collab = s.collab ∧
      EdgeRest 0b00 s t ∧
      t.led = { s.led with fb := t.led.fb } ∧
      t.led.fb.read idx.toNat = some (g ++ r ++ b) ∧
      ∀ a, a ≠ idx.toNat → t.led.fb.read a = s.led.fb.read a

/-- R131: SET_PIXEL with an index of N or more sets `err[0]` and writes nothing. -/
def Obligations.SetPixelOutOfRangeRejected : Prop :=
  ∀ (s : State) (idx : BitVec 16) (r g b : BitVec 8), s.led.st = .idle → s.cfg.pixels ≤ idx.toNat →
    ∃ t, exec (.setPixel idx r g b) s = .next t ∧ t.seq = s.seq ∧ t.collab = s.collab ∧
      EdgeRest 0b00 s t ∧ t.led = { s.led with err := s.led.err ||| 0b0001 } ∧
      ∀ a, t.led.fb.read a = s.led.fb.read a

/-- R128: SET_PIXEL, CLEAR and FLUSH before INIT set `err[1]` and do nothing else. -/
def Obligations.CommandsBeforeInitRefused : Prop :=
  ∀ (s : State) (i : Instr), s.led.st = .uninit →
    (∃ idx r g b, i = .setPixel idx r g b) ∨ i = .clear ∨ i = .flush →
    ∃ t, exec i s = .next t ∧ t.seq = s.seq ∧ t.collab = s.collab ∧ EdgeRest 0b00 s t ∧
      t.led = { s.led with err := s.led.err ||| 0b0010 } ∧
      (∀ a, t.led.fb.read a = s.led.fb.read a) ∧ t.ledDout = false

/-- R132: a word with `wf` false that a client presents to a ready port sets `err[2]` and changes nothing
else. -/
def Obligations.IllegalWordSetsIllegalBit : Prop :=
  ∀ (s : State) (w : LedWord), s.led.st = .uninit ∨ s.led.st = .idle → lcmdWf w = false →
    decode (.port (.lcmd w)) = .ok (.lcmdReserved w) ∧
    ∃ t, exec (.lcmdReserved w) s = .next t ∧ t.seq = s.seq ∧ t.collab = s.collab ∧
      EdgeRest 0b00 s t ∧ t.led = { s.led with err := s.led.err ||| 0b0100 } ∧
      ∀ a, t.led.fb.read a = s.led.fb.read a

/-- R134: CLEAR sets all N elements to 0 at one edge. -/
def Obligations.ClearZeroesBuffer : Prop :=
  ∀ s : State, s.led.st = .idle →
    ∃ t, exec .clear s = .next t ∧ t.seq = s.seq ∧ t.collab = s.collab ∧ EdgeRest 0b00 s t ∧
      t.led = { s.led with fb := t.led.fb } ∧
      ∀ i, t.led.fb.read i = if i < s.cfg.pixels then some 0x000000 else none

/-- R136: FLUSH starts a frame at pixel 0, bit 23, and does not change the buffer. -/
def Obligations.FlushStartsFrame : Prop :=
  ∀ s : State, s.led.st = .idle →
    ∃ t, exec .flush s = .next t ∧ t.seq = s.seq ∧ t.collab = s.collab ∧ EdgeRest 0b00 s t ∧
      t.led = { s.led with st := .tx, pix := 0, bit := 23, cnt := 0 } ∧
      ∀ a, t.led.fb.read a = s.led.fb.read a

/-- Every command, and every malformed word, is held while the driver is not ready: the driver goes on as if
nothing were presented, and the client keeps the word (40_led_driver.md section 1, 70_reset_and_hazards.md
section 3). -/
def Obligations.CommandsHeldWhileBusy : Prop :=
  ∀ (s : State) (i : Instr), s.led.st = .tx ∨ s.led.st = .latch ∨ s.led.st = .fatal →
    s.led.readsInRange s.cfg = true →
    i = .nop ∨ i = .init ∨ (∃ idx r g b, i = .setPixel idx r g b) ∨ i = .clear ∨ i = .flush ∨
      (∃ w, i = .lcmdReserved w) →
    (∃ t, exec i s = .next t ∧ t.seq = s.seq ∧ QuietEdge s t) ∧
    ∀ w, s.accepts (.lcmd w) = false

/-- An error bit, once set, stays set until reset (10_state.md section 2, 60_exceptions.md section 1). -/
def Obligations.ErrorBitsSticky : Prop :=
  ∀ s t : State, s.pins.rst = false → step s = .next t →
    ∀ k, s.led.err.getLsbD k = true → t.led.err.getLsbD k = true

/-- R135: CLEAR leaves the same buffer, as data, as N SET_PIXEL commands of black in index order. -/
def Obligations.ClearEqualsSetPixelEverywhere : Prop :=
  ∀ (c : Config) (l : Led), l.st = .idle → c.pixels ≤ 65535 → l.fb.wf = true →
    (∀ i, (l.fb.read i).isSome = true → i < c.pixels) →
    (List.range c.pixels).foldl (fun d i => Led.run c (.setPixel (BitVec.ofNat 16 i) 0 0 0) d) l =
      Led.run c .clear l

/-- R137, with the frame itself in closed form: FLUSH is presented to an IDLE driver in some cycle, and `t` is
the state `k + 1` steps later, `rst` having been 0 and the client and the inputs having done what they like.
For 24·N·SYM_CYCLES cycles the driver is in TX: symbol `k / SYM_CYCLES` carries bit `23 - (symbol mod 24)` of
element `symbol div 24` and is high for T1H or T0H cycles. For RESET_CYCLES cycles it is in LATCH and the line
is low. Then it is IDLE and ready again. Buffer and error bits are those of the accepting cycle throughout
(40_led_driver.md sections 2 and 3, 20_memory.md section 2, 30_encoding.md section 6). -/
def Obligations.FlushTransmitsFrame : Prop :=
  ∀ (s t : State) (k : Nat),
    1 ≤ s.cfg.pixels ∧ s.cfg.pixels ≤ 65535 → 3 ≤ s.cfg.symCycles ∧ s.cfg.symCycles ≤ 2 ^ 32 →
    1 ≤ s.cfg.resetCycles ∧ s.cfg.resetCycles ≤ 2 ^ 32 →
    s.led.st = .idle → s.ledPort = some 0x400000000000 → s.noResetFor (k + 1) → s.after (k + 1) = .next t →
    let sym := s.cfg.symCycles
    let data := 24 * s.cfg.pixels * sym
    (k < data →
      t.led = { s.led with st := .tx, pix := BitVec.ofNat 16 (k / sym / 24),
                           bit := BitVec.ofNat 5 (23 - k / sym % 24), cnt := BitVec.ofNat 32 (k % sym) } ∧
      t.led.ready = false ∧
      ∀ v, s.led.fb.read (k / sym / 24) = some v →
        t.ledDout = decide (k % sym <
          if v.getLsbD (23 - k / sym % 24) then s.cfg.t1hCycles else s.cfg.t0hCycles)) ∧
    (data ≤ k → k < data + s.cfg.resetCycles →
      t.led.st = .latch ∧ t.led.ready = false ∧ t.ledDout = false) ∧
    (k = data + s.cfg.resetCycles → t.led.st = .idle ∧ t.led.ready = true ∧ t.ledDout = false) ∧
    (k ≤ data + s.cfg.resetCycles → t.led.fb = s.led.fb ∧ t.led.err = s.led.err)

/-- R142: the line is 1 exactly in the high part of a symbol of the bit `FB[pix][bit]`. -/
def Obligations.LineLevelOfSymbol : Prop :=
  ∀ s : State,
    (s.led.st ≠ .tx → s.ledDout = false) ∧
    (s.led.st = .tx → ∀ v, s.led.fb.read s.led.pix.toNat = some v →
      s.ledDout = decide (s.led.cnt.toNat <
        if v.getLsbD s.led.bit.toNat then s.cfg.t1hCycles else s.cfg.t0hCycles))

/-- R143: in FATAL the driver is not ready, drives 0 and changes no register; only reset leaves it. -/
def Obligations.FatalDriverHolds : Prop :=
  ∀ s t : State, s.led.st = .fatal → step s = .next t →
    s.led.ready = false ∧ s.ledDout = false ∧
    (s.pins.rst = false → t.led = s.led) ∧ (s.pins.rst = true → t.led.st = .uninit)

/-- No step changes the frame buffer while a frame or its hold is in progress, unless it is a reset
(20_memory.md section 5). -/
def Obligations.NoWriteDuringFrame : Prop :=
  ∀ s t : State, s.led.st = .tx ∨ s.led.st = .latch → s.pins.rst = false → step s = .next t →
    t.led.fb = s.led.fb

/-! ## The input latch -/

/-- What READ reads, in every cycle: `latch_a` and `latch_b` are the FLAG pair under STICKY and the HELD pair
under LEVEL, `latch_chord` is CHORD, and the read word is `{latch_chord, latch_b, latch_a}`. READ and the
reserved codes clear no flag: a flag is set by its line's assertion edge, a HELD flag is cleared by a release
edge, and CHORD is set when both new HELD flags are 1 (41_input_latch.md sections 2 to 4, 30_encoding.md
section 4; that a reserved code runs is log 10). -/
def Obligations.LatchReadClearsNothing : Prop :=
  (∀ s : State,
    (s.cfg.latchMode = .sticky →
      s.latch.outA s.cfg = s.latch.flagA ∧ s.latch.outB s.cfg = s.latch.flagB ∧
      s.latchRead.getLsbD 0 = s.latch.flagA ∧ s.latchRead.getLsbD 1 = s.latch.flagB) ∧
    (s.cfg.latchMode = .level →
      s.latch.outA s.cfg = s.latch.heldA ∧ s.latch.outB s.cfg = s.latch.heldB ∧
      s.latchRead.getLsbD 0 = s.latch.heldA ∧ s.latchRead.getLsbD 1 = s.latch.heldB) ∧
    s.latch.outChord = s.latch.chord ∧ s.latchRead.getLsbD 2 = s.latch.chord) ∧
  ∀ (s : State) (i : Instr), s.led.readsInRange s.cfg = true →
    i = .latchNone ∨ (∃ low, i = .latchReserved low) →
    let en := decide (s.latch.warm = s.cfg.syncStages + 1)
    let levelA := s.latch.syA.getD (s.cfg.syncStages - 1) false
    let levelB := s.latch.syB.getD (s.cfg.syncStages - 1) false
    let riseA := en && levelA && !s.latch.prevA
    let riseB := en && levelB && !s.latch.prevB
    let fallA := en && !levelA && s.latch.prevA
    let fallB := en && !levelB && s.latch.prevB
    ∃ t, exec i s = .next t ∧ t.seq = s.seq ∧ NoLedCommand s t ∧ t.collab = s.collab ∧
      t.timer = s.timer.tick s.cfg ∧ t.cfg = s.cfg ∧
      t.latch.flagA = (riseA || s.latch.flagA) ∧ t.latch.flagB = (riseB || s.latch.flagB) ∧
      t.latch.heldA = (riseA || (s.latch.heldA && !fallA)) ∧
      t.latch.heldB = (riseB || (s.latch.heldB && !fallB)) ∧
      t.latch.chord = ((t.latch.heldA && t.latch.heldB) || s.latch.chord) ∧
      t.latch.prevA = levelA ∧ t.latch.prevB = levelB ∧
      t.latch.syA = (s.sampleA :: s.latch.syA).take s.cfg.syncStages ∧
      t.latch.syB = (s.sampleB :: s.latch.syB).take s.cfg.syncStages ∧
      t.latch.warm = min (s.latch.warm + 1) (s.cfg.syncStages + 1)

/-- CLEAR_ALL leaves each flag at 0 unless an assertion edge of the same cycle sets it; the synchronizer,
`prev_x` and `warm` go on as ever (41_input_latch.md sections 3 and 4). -/
def Obligations.ClearAllKeepsOnlyNewEdges : Prop :=
  ∀ s : State, s.led.readsInRange s.cfg = true →
    let en := decide (s.latch.warm = s.cfg.syncStages + 1)
    let levelA := s.latch.syA.getD (s.cfg.syncStages - 1) false
    let levelB := s.latch.syB.getD (s.cfg.syncStages - 1) false
    let riseA := en && levelA && !s.latch.prevA
    let riseB := en && levelB && !s.latch.prevB
    ∃ t, exec .latchClearAll s = .next t ∧ t.seq = s.seq ∧ NoLedCommand s t ∧ t.collab = s.collab ∧
      t.timer = s.timer.tick s.cfg ∧ t.cfg = s.cfg ∧
      t.latch.flagA = riseA ∧ t.latch.flagB = riseB ∧ t.latch.heldA = riseA ∧ t.latch.heldB = riseB ∧
      t.latch.chord = (riseA && riseB) ∧ t.latch.prevA = levelA ∧ t.latch.prevB = levelB ∧
      t.latch.syA = (s.sampleA :: s.latch.syA).take s.cfg.syncStages ∧
      t.latch.syB = (s.sampleB :: s.latch.syB).take s.cfg.syncStages ∧
      t.latch.warm = min (s.latch.warm + 1) (s.cfg.syncStages + 1)

/-- R48: HELD implies FLAG, and CHORD implies both FLAGs: after reset, and after every step from a state in
which they hold. -/
def Obligations.FlagInvariantsMaintained : Prop :=
  let flagsOk (s : State) : Prop :=
    (s.latch.heldA = true → s.latch.flagA = true) ∧ (s.latch.heldB = true → s.latch.flagB = true) ∧
    (s.latch.chord = true → s.latch.flagA = true ∧ s.latch.flagB = true)
  (∀ c : Config, flagsOk (State.resetWith c)) ∧
  (∀ s t : State, flagsOk s → step s = .next t → flagsOk t)

/-- The latency of a press: after a run of 0 samples, S edges from the first edge that samples 1 the line's
flags are 1, whatever is sampled and driven in between (41_input_latch.md section 5). -/
def Obligations.PressSeenAfterSyncStages : Prop :=
  ∀ (c : Config) (l : Latch) (op op' : LatchWord) (a b : Bool)
    (between : List (LatchWord × Bool × Bool)),
    2 ≤ c.syncStages → l.warm = c.syncStages + 1 → between.length = c.syncStages - 1 →
    (l.syA = List.replicate c.syncStages false → l.prevA = false →
      let m := Latch.after c ((op, true, b) :: between) l
      lineLevel c m.syA = true ∧ m.riseA c = true ∧
        (m.cycle c op' a b).flagA = true ∧ (m.cycle c op' a b).heldA = true) ∧
    (l.syB = List.replicate c.syncStages false → l.prevB = false →
      let m := Latch.after c ((op, a, true) :: between) l
      lineLevel c m.syB = true ∧ m.riseB c = true ∧
        (m.cycle c op' a b).flagB = true ∧ (m.cycle c op' a b).heldB = true)

/-- A button held from reset on sets none of its flags, and no chord, until it is released
(41_input_latch.md section 2, 70_reset_and_hazards.md section 2). -/
def Obligations.HeldThroughResetUnseen : Prop :=
  ∀ (c : Config) (ins : List (LatchWord × Bool × Bool)), 2 ≤ c.syncStages →
    ((∀ x ∈ ins, x.2.1 = true) →
      let m := Latch.after c ins (Latch.atReset c)
      m.flagA = false ∧ m.heldA = false ∧ m.chord = false) ∧
    ((∀ x ∈ ins, x.2.2 = true) →
      let m := Latch.after c ins (Latch.atReset c)
      m.flagB = false ∧ m.heldB = false ∧ m.chord = false)

/-- FLAG_A, FLAG_B and CHORD are cleared only in a cycle that drives CLEAR_ALL, and the sequencer drives it
only in IDLE_EXIT, RW_CLR, GO_EXIT and, as a parameter says, the completing cycle of RW_DRAW (20_memory.md
section 5, 41_input_latch.md section 5, 43_game_fsm.md section 2). -/
def Obligations.FlagsClearedOnlyByClearAll : Prop :=
  (∀ s t : State, s.pins.rst = false → step s = .next t →
    (s.latch.flagA = true ∧ t.latch.flagA = false) ∨ (s.latch.flagB = true ∧ t.latch.flagB = false) ∨
      (s.latch.chord = true ∧ t.latch.chord = false) →
    s.latchPort = 0b01) ∧
  (∀ s : State, s.clientWord = none →
    (s.latchPort = 0b01 ↔
      s.seq.upc = 4 ∨ s.seq.upc = 25 ∨ s.seq.upc = 38 ∨
        (s.seq.upc = 15 ∧ s.cfg.clearFlagsAtWindow = true ∧ s.pins.rnd.toNat ≤ 2)) ∧
    (s.latchPort = 0b01 ∨ s.latchPort = 0b00))

/-! ## The timer -/

/-- R217: the timer rule of every edge without reset, and its closed form: `k` cycles after a reset
`TIMER_US` is ⌊k / CLK_PER_US⌋ mod 2^32. -/
def Obligations.TimerCountsMicroseconds : Prop :=
  (∀ s t : State, s.pins.rst = false → step s = .next t →
    (s.timer.presc = s.cfg.clkPerUs - 1 → t.timer = { presc := 0, us := s.timer.us + 1 }) ∧
    (s.timer.presc ≠ s.cfg.clkPerUs - 1 → t.timer = { s.timer with presc := s.timer.presc + 1 })) ∧
  (∀ (s t : State) (k : Nat), 1 ≤ s.cfg.clkPerUs → s.timer = { presc := 0, us := 0 } →
    s.noResetFor k → s.after k = .next t →
    t.timer = { presc := k % s.cfg.clkPerUs, us := BitVec.ofNat 32 (k / s.cfg.clkPerUs) })

/-- R216: nothing controls the timer but `rst`: two machines that agree on the timer, the configuration and
`rst` agree on the timer after a step, whatever they perform, and reset sets it to 0. -/
def Obligations.TimerHasNoControl : Prop :=
  (∀ s s' t t' : State, s.timer = s'.timer → s.cfg = s'.cfg → s.pins.rst = s'.pins.rst →
    step s = .next t → step s' = .next t' → t.timer = t'.timer) ∧
  (∀ s t : State, s.pins.rst = true → step s = .next t → t.timer = { presc := 0, us := 0 })

/-! ## Collaborator requests -/

/-- The five tone requests on the tone port: the request is transferred when `tone_ready` = 1, else it
waits; nothing else but the clock acts. What was transferred is the model's record (log 17), and that a request
word is run by itself is the model's choice (log 13). -/
def Obligations.ToneRequestTransferred : Prop :=
  ∀ (s : State) (vol : BitVec 8), s.led.readsInRange s.cfg = true →
    ∀ x ∈ [(Instr.toneRwT1 vol, 800#16, 100#16), (.toneRwT2 vol, 1000#16, 100#16),
           (.toneRwT3 vol, 1200#16, 100#16), (.toneResT1 vol, 400#16, 300#16),
           (.toneResT2 vol, 300#16, 300#16)],
      ∃ t, exec x.1 s = .next t ∧ t.seq = s.seq ∧ NoLedCommand s t ∧ EdgeRest 0b00 s t ∧
        t.collab = if s.pins.toneReady then
          { s.collab with toneLast := some (x.2.1 ++ x.2.2 ++ vol), toneDone := s.collab.toneDone + 1 }
          else s.collab

/-- The five display requests on the display port, transferred when `disp_ready` = 1. The record is the
model's (log 17), and so is running a request word by itself (log 13). -/
def Obligations.DispRequestTransferred : Prop :=
  ∀ (s : State) (score : BitVec 16), s.led.readsInRange s.cfg = true →
    ∀ x ∈ [(Instr.dispPrompt score, 1#4), (.dispLegend score, 2#4), (.dispVerdictLow score, 3#4),
           (.dispVerdictMed score, 4#4), (.dispVerdictHigh score, 5#4)],
      ∃ t, exec x.1 s = .next t ∧ t.seq = s.seq ∧ NoLedCommand s t ∧ EdgeRest 0b00 s t ∧
        t.collab = if s.pins.dispReady then
          { s.collab with dispLast := some (x.2 ++ score), dispDone := s.collab.dispDone + 1 }
          else s.collab

/-- A status-LED word sets the three percentages when each is at most 100; a percentage of 101 to 127 is
refused by name, in the meaning and in the decoder (30_encoding.md section 5; running and refusing a word by
itself are the model's choices, log 13 and log 14). -/
def Obligations.SledWordSetsPercentages : Prop :=
  ∀ (s : State) (r g b : BitVec 7), s.led.readsInRange s.cfg = true →
    (r.toNat ≤ 100 ∧ g.toNat ≤ 100 ∧ b.toNat ≤ 100 →
      ∃ t, exec (.sled r g b) s = .next t ∧
        t.seq = { s.seq with sledR := r, sledG := g, sledB := b } ∧ QuietEdge s t) ∧
    (100 < r.toNat ∨ 100 < g.toNat ∨ 100 < b.toNat →
      exec (.sled r g b) s = .refused (.rejected .sledPercent) ∧
      decode (.port (.sled (r ++ g ++ b))) = .error .sledPercent)

/-! ## The sequencer's steps -/

/-- BOOT_INIT drives INIT until it is accepted, then BOOT_CHK (43_game_fsm.md section 3). -/
def Obligations.BootInitPresentsInit : Prop :=
  ∀ s : State, s.led.readsInRange s.cfg = true →
    ∃ t, exec .stepBootInit s = .next t ∧ EdgeRest 0b00 s t ∧ t.collab = s.collab ∧
      (s.led.ready = true → t.seq = { s.seq with upc := 1 } ∧ t.led = Led.run s.cfg .init s.led) ∧
      (s.led.ready = false → t.seq = s.seq ∧ NoLedCommand s t)

/-- The one-cycle steps that only branch: BOOT_CHK on `led_fatal`, CD_CHECK on the countdown window, RES_CHK on
a missed round, GO_CHK on `latch_a` or `latch_b`, which are the FLAG pair under STICKY and the HELD pair under
LEVEL (43_game_fsm.md sections 3, 5, 7 and 8, 41_input_latch.md section 4). -/
def Obligations.BranchStepsChooseSuccessor : Prop :=
  ∀ s : State, s.led.readsInRange s.cfg = true →
    let pressed := match s.cfg.latchMode with
      | .sticky => s.latch.flagA || s.latch.flagB
      | .level => s.latch.heldA || s.latch.heldB
    (∃ t, exec .stepBootChk s = .next t ∧ QuietEdge s t ∧
      t.seq = { s.seq with upc := if s.led.st = .fatal then 63 else 2 }) ∧
    (∃ t, exec .stepCdCheck s = .next t ∧ QuietEdge s t ∧
      t.seq = { s.seq with upc := if 3000000 ≤ (s.timer.us - s.seq.tCd).toNat then 15 else 7 }) ∧
    (∃ t, exec .stepResChk s = .next t ∧ QuietEdge s t ∧
      t.seq = { s.seq with upc := if s.seq.score = s.seq.snapshot then 27 else 31 }) ∧
    (∃ t, exec .stepGoChk s = .next t ∧ QuietEdge s t ∧
      t.seq = { s.seq with upc := if pressed = true then 38 else 36 })

/-- The display steps present their screen with the score and complete at the transfer: IDLE_DRAW (PROMPT)
writes `t0`; CD_DISP (LEGEND) writes `t_cd` and starts the slot at RED; GO_DRAW sends the verdict of the score.
`disp_valid` is 1 in these steps and in no other, the fields are 0 whenever it is 0, and an untransferred
request stands unchanged in the next cycle (43_game_fsm.md sections 2, 4, 5 and 8, 42_collaborators.md
section 2). The record of the transfer is the model's (log 17), and so is the premise `clientWord = none`: in a
cycle of a client's word the client replaces the sequencer (log 12). -/
def Obligations.DisplayStepsCompleteAtTransfer : Prop :=
  (∀ s : State,
    let verdict : BitVec 4 :=
      if s.seq.score.toNat < 3000 then 3 else if s.seq.score.toNat < 5000 then 4 else 5
    ∀ (i : Instr) (u : StepCode) (screen : BitVec 4) (done : Machine.Seq),
      (i, u, screen, done) ∈
        [(Instr.stepIdleDraw, 2#6, 1#4, { s.seq with t0 := s.timer.us, upc := 3 }),
         (.stepCdDisp, 5#6, 2#4, { s.seq with tCd := s.timer.us, slot := .red, upc := 6 }),
         (.stepGoDraw, 36#6, verdict, { s.seq with upc := 37 })] →
      decode (.step u) = .ok i ∧
      (s.clientWord = none → s.seq.upc = u →
        s.dispValid = true ∧ s.dispScreen = screen ∧ s.dispScore = s.seq.score) ∧
      (s.led.readsInRange s.cfg = true →
        ∃ t, exec i s = .next t ∧ NoLedCommand s t ∧ EdgeRest 0b00 s t ∧
          (s.pins.dispReady = true → t.seq = done ∧
            t.collab = { s.collab with dispLast := some (screen ++ s.seq.score),
                                       dispDone := s.collab.dispDone + 1 }) ∧
          (s.pins.dispReady = false → t.seq = s.seq ∧ t.collab = s.collab))) ∧
  (∀ s : State, s.clientWord = none → s.seq.upc ∉ [2#6, 5#6, 36#6] → s.dispValid = false) ∧
  (∀ s : State, s.dispValid = false → s.dispScreen = 0 ∧ s.dispScore = 0) ∧
  (∀ s t : State, s.clientWord = none → t.clientWord = none → s.pins.rst = false → step s = .next t →
    s.dispValid = true → s.pins.dispReady = false →
    t.dispValid = true ∧ t.dispScreen = s.dispScreen ∧ t.dispScore = s.dispScore)

/-- R236: IDLE_WAIT leaves for IDLE_EXIT on a chord, else redraws after 100 000 µs, else waits. -/
def Obligations.IdleWaitChordWins : Prop :=
  ∀ s : State, s.led.readsInRange s.cfg = true →
    ∃ t, exec .stepIdleWait s = .next t ∧ QuietEdge s t ∧
      t.seq =
        if s.latch.chord = true then { s.seq with upc := 4 }
        else if 100000 ≤ (s.timer.us - s.seq.t0).toNat then { s.seq with upc := 2 }
        else s.seq

/-- The steps that clear the latch: IDLE_EXIT starts a fresh session, RW_CLR ends the hit path, GO_EXIT ends the
session; each drives CLEAR_ALL and nothing else (43_game_fsm.md sections 4, 6 and 8). -/
def Obligations.ClearAllStepsResetRecord : Prop :=
  ∀ s : State, s.led.readsInRange s.cfg = true →
    ∀ x ∈ [(Instr.stepIdleExit,
              { s.seq with score := 0, snapshot := 0, round := 0, session := true, upc := 5 }),
           (.stepRwClr, { s.seq with upc := 26 }),
           (.stepGoExit, { s.seq with score := 0, round := 0, session := false, upc := 2 })],
      ∃ t, exec x.1 s = .next t ∧ t.seq = x.2 ∧ NoLedCommand s t ∧ EdgeRest 0b01 s t ∧
        t.collab = s.collab

/-- CD_SET and RW_SET present SET_PIXEL of the slot's and of the target's position, POS_RED, POS_GREEN or
POS_BLUE, with LED_LEVEL on the colour's own channel. When the driver is IDLE and the position is in range,
exactly that element changes, to that colour in the order G, R, B (43_game_fsm.md sections 5 and 6,
00_scope.md section 4). -/
def Obligations.ColourStepsLightOnePosition : Prop :=
  ∀ s : State, s.led.readsInRange s.cfg = true →
    ∀ x ∈ [(Instr.stepCdSet, s.seq.slot, 8#6), (.stepRwSet, s.seq.target, 17#6)],
      let pos := match x.2.1 with
        | .red => s.cfg.posRed
        | .green => s.cfg.posGreen
        | .blue => s.cfg.posBlue
      let rgb := match x.2.1 with
        | .red => (s.cfg.ledLevel, 0#8, 0#8)
        | .green => (0#8, s.cfg.ledLevel, 0#8)
        | .blue => (0#8, 0#8, s.cfg.ledLevel)
      ∃ t, exec x.1 s = .next t ∧ EdgeRest 0b00 s t ∧ t.collab = s.collab ∧
        (s.led.ready = true → t.seq = { s.seq with upc := x.2.2 } ∧
          t.led = Led.run s.cfg (.setPixel pos rgb.1 rgb.2.1 rgb.2.2) s.led) ∧
        (s.led.ready = false → t.seq = s.seq ∧ NoLedCommand s t) ∧
        (s.led.st = .idle → pos.toNat < s.cfg.pixels →
          t.led = { s.led with fb := t.led.fb } ∧
          t.led.fb.read pos.toNat = some (rgb.2.1 ++ rgb.1 ++ rgb.2.2) ∧
          ∀ a, a ≠ pos.toNat → t.led.fb.read a = s.led.fb.read a)

/-- CD_FLUSH1, CD_FLUSH2, RW_FLUSH and RES_FLUSH present FLUSH until it is accepted; no element changes
(43_game_fsm.md sections 5 to 7). -/
def Obligations.FlushStepsStartFrame : Prop :=
  ∀ s : State, s.led.readsInRange s.cfg = true →
    ∀ x ∈ [(Instr.stepCdFlush1, 9#6), (.stepCdFlush2, 13#6), (.stepRwFlush, 18#6), (.stepResFlush, 34#6)],
      ∃ t, exec x.1 s = .next t ∧ EdgeRest 0b00 s t ∧ t.collab = s.collab ∧
        (s.led.ready = true → t.seq = { s.seq with upc := x.2 }) ∧
        (s.led.st = .idle → t.led = { s.led with st := .tx, pix := 0, bit := 23, cnt := 0 }) ∧
        (s.led.st = .uninit → t.led = { s.led with err := s.led.err ||| 0b0010 }) ∧
        (s.led.ready = false → t.seq = s.seq ∧ NoLedCommand s t) ∧
        ∀ a, t.led.fb.read a = s.led.fb.read a

/-- CD_CLR and RES_CLR present CLEAR until it is accepted; from IDLE every element becomes 0
(43_game_fsm.md sections 5 and 7). -/
def Obligations.ClearStepsBlankBuffer : Prop :=
  ∀ s : State, s.led.readsInRange s.cfg = true →
    ∀ x ∈ [(Instr.stepCdClr, 12#6), (.stepResClr, 33#6)],
      ∃ t, exec x.1 s = .next t ∧ EdgeRest 0b00 s t ∧ t.collab = s.collab ∧
        (s.led.ready = true → t.seq = { s.seq with upc := x.2 }) ∧
        (s.led.st = .idle → t.led = { s.led with fb := t.led.fb } ∧
          ∀ i, t.led.fb.read i = if i < s.cfg.pixels then some 0x000000 else none) ∧
        (s.led.st = .uninit → t.led = { s.led with err := s.led.err ||| 0b0010 }) ∧
        (s.led.ready = false → t.seq = s.seq ∧ NoLedCommand s t)

/-- The flush waits complete when the driver is IDLE: CD_FWAIT1 and CD_FWAIT2 write `t0`, RW_FWAIT writes `t_e`,
RES_FWAIT writes nothing (43_game_fsm.md sections 5 to 7). -/
def Obligations.FlushWaitsCompleteAtIdle : Prop :=
  ∀ s : State, s.led.readsInRange s.cfg = true →
    ∀ x ∈ [(Instr.stepCdFwait1, { s.seq with t0 := s.timer.us, upc := 10 }),
           (.stepCdFwait2, { s.seq with t0 := s.timer.us, upc := 14 }),
           (.stepRwFwait, { s.seq with tE := s.timer.us, upc := 19 }),
           (.stepResFwait, { s.seq with upc := 35 })],
      ∃ t, exec x.1 s = .next t ∧ QuietEdge s t ∧ t.seq = if s.led.st = .idle then x.2 else s.seq

/-- The fixed waits CD_ON (150 ms), RW_HOLD and RES_HOLD (500 ms) complete when the unsigned 32-bit difference
reaches the duration (R246, R267, R276). -/
def Obligations.FixedWaitsCompleteAtDeadline : Prop :=
  ∀ s : State, s.led.readsInRange s.cfg = true →
    ∀ x ∈ [(Instr.stepCdOn, 150000, 11#6), (.stepRwHold, 500000, 25#6), (.stepResHold, 500000, 31#6)],
      ∃ t, exec x.1 s = .next t ∧ QuietEdge s t ∧
        t.seq = if x.2.1 ≤ (s.timer.us - s.seq.t0).toNat then { s.seq with upc := x.2.2 } else s.seq

/-- R250: CD_OFF waits 150 000 µs and passes the slot on, RED to BLUE to GREEN to RED. -/
def Obligations.CountdownOffPassesSlot : Prop :=
  ∀ s : State, s.led.readsInRange s.cfg = true →
    ∃ t, exec .stepCdOff s = .next t ∧ QuietEdge s t ∧
      t.seq = if 150000 ≤ (s.timer.us - s.seq.t0).toNat then
          { s.seq with
            upc := 6
            slot := match s.seq.slot with
              | .red => .blue
              | .blue => .green
              | .green => .red }
        else s.seq

/-- R255: RW_DRAW takes `rnd_val` 0, 1 or 2 as the target and the score as the snapshot, clearing the latch in
that cycle when `CLEAR_FLAGS_AT_WINDOW` is set; at 3 it waits. -/
def Obligations.DrawTakesTargetAndSnapshot : Prop :=
  ∀ s : State, s.led.readsInRange s.cfg = true →
    (∀ x ∈ [(0#2, Colour.red), (1#2, .green), (2#2, .blue)], s.pins.rnd = x.1 →
      ∃ t, exec .stepRwDraw s = .next t ∧ NoLedCommand s t ∧ t.collab = s.collab ∧
        EdgeRest (if s.cfg.clearFlagsAtWindow then 0b01 else 0b00) s t ∧
        t.seq = { s.seq with target := x.2, snapshot := s.seq.score, upc := 16 }) ∧
    (s.pins.rnd = 3 → ∃ t, exec .stepRwDraw s = .next t ∧ QuietEdge s t ∧ t.seq = s.seq)

/-- R259: RW_POLL tests the deadline first, then the flag that matches the target (for RED and GREEN the FLAG
under STICKY, the HELD flag under LEVEL; for BLUE the chord); a hit after `e` µs awards 700 − ⌊e / 1000⌋
points. -/
def Obligations.PollScoresHitBeforeDeadline : Prop :=
  ∀ s : State, s.led.readsInRange s.cfg = true →
    let e := (s.timer.us - s.seq.tE).toNat
    let hit := match s.seq.target, s.cfg.latchMode with
      | .red, .sticky => s.latch.flagA
      | .red, .level => s.latch.heldA
      | .green, .sticky => s.latch.flagB
      | .green, .level => s.latch.heldB
      | .blue, _ => s.latch.chord
    ∃ t, exec .stepRwPoll s = .next t ∧ QuietEdge s t ∧
      t.seq =
        if 700000 ≤ e then { s.seq with upc := 26 }
        else if hit = true then
          { s.seq with score := s.seq.score + BitVec.ofNat 16 (700 - e / 1000), upc := 20 }
        else s.seq

/-- The tone steps present their request with the parameter's volume and complete at the transfer. `tone_valid`
is 1 in these steps and in no other, the fields are 0 whenever it is 0, and an untransferred request stands
unchanged in the next cycle (43_game_fsm.md sections 2, 6 and 7, 42_collaborators.md section 1, 30_encoding.md
section 8). The record of the transfer is the model's (log 17), and so is the premise `clientWord = none`
(log 12). -/
def Obligations.ToneStepsCompleteAtTransfer : Prop :=
  (∀ (s : State) (i : Instr) (u : StepCode) (freq dur : BitVec 16) (vol : BitVec 8) (next : StepCode),
    (i, u, freq, dur, vol, next) ∈
      [(Instr.stepRwT1, 20#6, 800#16, 100#16, s.cfg.volSuccess, 21#6),
       (.stepRwT2, 21#6, 1000#16, 100#16, s.cfg.volSuccess, 22#6),
       (.stepRwT3, 22#6, 1200#16, 100#16, s.cfg.volSuccess, 23#6),
       (.stepResT1, 27#6, 400#16, 300#16, s.cfg.volFail, 28#6),
       (.stepResT2, 28#6, 300#16, 300#16, s.cfg.volFail, 29#6)] →
    decode (.step u) = .ok i ∧
    (s.clientWord = none → s.seq.upc = u →
      s.toneValid = true ∧ s.toneFreq = freq ∧ s.toneDur = dur ∧ s.toneVol = vol) ∧
    (s.led.readsInRange s.cfg = true →
      ∃ t, exec i s = .next t ∧ NoLedCommand s t ∧ EdgeRest 0b00 s t ∧
        (s.pins.toneReady = true →
          t.seq = { s.seq with upc := next } ∧
          t.collab = { s.collab with toneLast := some (freq ++ dur ++ vol),
                                     toneDone := s.collab.toneDone + 1 }) ∧
        (s.pins.toneReady = false → t.seq = s.seq ∧ t.collab = s.collab))) ∧
  (∀ s : State, s.clientWord = none → s.seq.upc ∉ [20#6, 21#6, 22#6, 27#6, 28#6] → s.toneValid = false) ∧
  (∀ s : State, s.toneValid = false → s.toneFreq = 0 ∧ s.toneDur = 0 ∧ s.toneVol = 0) ∧
  (∀ s t : State, s.clientWord = none → t.clientWord = none → s.pins.rst = false → step s = .next t →
    s.toneValid = true → s.pins.toneReady = false →
    t.toneValid = true ∧ t.toneFreq = s.toneFreq ∧ t.toneDur = s.toneDur ∧ t.toneVol = s.toneVol)

/-- RW_LED shows green and RES_LED red at their parameter's percentage, each writing `t0`; RES_OFF zeroes the
three outputs (43_game_fsm.md sections 6 and 7). -/
def Obligations.StatusLedStepsWriteOutputs : Prop :=
  ∀ s : State, s.led.readsInRange s.cfg = true →
    ∀ x ∈ [(Instr.stepRwLed,
              { s.seq with sledR := 0, sledG := s.cfg.pctGreen, sledB := 0, t0 := s.timer.us, upc := 24 }),
           (.stepResLed,
              { s.seq with sledR := s.cfg.pctRed, sledG := 0, sledB := 0, t0 := s.timer.us, upc := 30 }),
           (.stepResOff, { s.seq with sledR := 0, sledG := 0, sledB := 0, upc := 32 })],
      ∃ t, exec x.1 s = .next t ∧ QuietEdge s t ∧ t.seq = x.2

/-- RES_NEXT increments the round counter (4 bits) and goes to GO_DRAW exactly when it becomes 10
(43_game_fsm.md section 7). -/
def Obligations.NextRoundOrVerdict : Prop :=
  ∀ s : State, s.led.readsInRange s.cfg = true →
    ∃ t, exec .stepResNext s = .next t ∧ QuietEdge s t ∧
      t.seq = { s.seq with round := s.seq.round + 1, upc := if s.seq.round = 9 then 36 else 5 }

/-- FATAL_HALT and the 24 unused steps drive nothing and change no register of the sequencer
(43_game_fsm.md section 9, 30_encoding.md section 7; that an unused step runs is log 11). -/
def Obligations.HaltStepsHold : Prop :=
  ∀ s : State, s.led.readsInRange s.cfg = true →
    ∀ i ∈ [Instr.stepFatalHalt, .stepUnused39, .stepUnused40, .stepUnused41, .stepUnused42, .stepUnused43,
           .stepUnused44, .stepUnused45, .stepUnused46, .stepUnused47, .stepUnused48, .stepUnused49,
           .stepUnused50, .stepUnused51, .stepUnused52, .stepUnused53, .stepUnused54, .stepUnused55,
           .stepUnused56, .stepUnused57, .stepUnused58, .stepUnused59, .stepUnused60, .stepUnused61,
           .stepUnused62],
      ∃ t, exec i s = .next t ∧ QuietEdge s t ∧ t.seq = s.seq

/-! ## The whole machine -/

/-- The fields of STATUS0 and STATUS1 (10_state.md section 9), with the top-level state of each range of `upc`
(30_encoding.md section 7) and the colour codes (00_scope.md section 4) written out. -/
def Obligations.StatusWordsShowRegisters : Prop :=
  ∀ s : State,
    let w := s.status0
    let u := s.seq.upc.toNat
    let code (k : Colour) : BitVec 2 := match k with
      | .red => 0
      | .green => 1
      | .blue => 2
    w.extractLsb' 0 6 = s.seq.upc ∧ w.extractLsb' 6 3 = stateOf s.seq.upc ∧
    (u ≤ 1 → stateOf s.seq.upc = 0) ∧ (2 ≤ u → u ≤ 4 → stateOf s.seq.upc = 1) ∧
    (5 ≤ u → u ≤ 14 → stateOf s.seq.upc = 2) ∧ (15 ≤ u → u ≤ 25 → stateOf s.seq.upc = 3) ∧
    (26 ≤ u → u ≤ 35 → stateOf s.seq.upc = 4) ∧ (36 ≤ u → u ≤ 38 → stateOf s.seq.upc = 5) ∧
    (39 ≤ u → stateOf s.seq.upc = 7) ∧
    w.extractLsb' 9 4 = s.seq.round ∧ w.getLsbD 13 = s.seq.session ∧
    w.extractLsb' 14 2 = code s.seq.target ∧ w.extractLsb' 16 4 = s.led.err ∧
    w.getLsbD 20 = decide (s.led.st = .idle) ∧ w.getLsbD 21 = decide (s.led.st = .fatal) ∧
    w.getLsbD 22 = s.latch.flagA ∧ w.getLsbD 23 = s.latch.flagB ∧ w.getLsbD 24 = s.latch.chord ∧
    w.getLsbD 25 = s.latch.heldA ∧ w.getLsbD 26 = s.latch.heldB ∧
    w.getLsbD 27 = s.latch.syA.getD (s.cfg.syncStages - 1) false ∧
    w.getLsbD 28 = s.latch.syB.getD (s.cfg.syncStages - 1) false ∧
    w.extractLsb' 29 2 = code s.seq.slot ∧ w.getLsbD 31 = false ∧
    s.status1.extractLsb' 0 16 = s.seq.score ∧ s.status1.extractLsb' 16 16 = s.seq.snapshot

/-- The block's invariant holds after reset, under every configuration that meets R9. -/
def Obligations.InvariantAtReset : Prop :=
  ∀ c : Config, c.Valid → (State.resetWith c).Inv

/-- Every step, from every state that meets the block's invariant, with any client and any inputs, keeps it: a
canonical frame buffer inside 0 to N-1, serializer counters in range, the flag invariants, the score bound of
700 a round, percentages of at most 100, no unused step. -/
def Obligations.StepKeepsInvariant : Prop :=
  ∀ s t : State, s.Inv → step s = .next t → t.Inv

/-- Under the invariant no step faults, and a step is refused only on a client's word. -/
def Obligations.InvariantRulesOutFaults : Prop :=
  ∀ s : State, s.Inv →
    (∀ f, step s ≠ .fault f) ∧ (s.clientWord = none → ∃ t, step s = .next t)

/-- The invariant of the assembled GAC holds after reset, under every configuration that meets R9. -/
def Obligations.AssembledInvariantAtReset : Prop :=
  ∀ c : Config, c.Valid → (State.resetWith c).AssembledInv

/-- Every step keeps the invariant of the assembled GAC: the driver is ready whenever the sequencer presents a
command, no error but NO_CHANNEL occurs, and exactly the lit colour's element is not 0
(43_game_fsm.md sections 2, 5 and 6, 60_exceptions.md section 1). -/
def Obligations.StepKeepsAssembledInvariant : Prop :=
  ∀ s t : State, s.AssembledInv → step s = .next t → t.AssembledInv

/-- The assembled GAC always has a next state: from every state that meets its invariant a step answers next
with a state that meets it again. So, without a client, GAC runs on from reset for ever, under every
configuration that meets R9 and whatever the environment does in any cycle: no step faults or is refused. -/
def Obligations.AssembledRunsForEver : Prop :=
  (∀ s : State, s.AssembledInv → ∃ t, step s = .next t ∧ t.AssembledInv) ∧
  ∀ (c : Config) (env : List Pins), c.Valid → ({ State.resetWith c with env := env }).Safe

/-- The score is set to 0 only by IDLE_EXIT and GO_EXIT and grows only in RW_POLL, by 1 to 700, never wrapping
(43_game_fsm.md section 6). -/
def Obligations.ScoreChangesOnlyInThreeSteps : Prop :=
  ∀ s t : State, s.Inv → s.pins.rst = false → step s = .next t →
    t.seq.score = s.seq.score ∨
    (s.seq.upc = 19 ∧ s.seq.score.toNat + 1 ≤ t.seq.score.toNat ∧
      t.seq.score.toNat ≤ s.seq.score.toNat + 700) ∨
    ((s.seq.upc = 4 ∨ s.seq.upc = 38) ∧ t.seq.score = 0)

/-- The top-level states change only as the document says: BOOT to IDLE or FATAL, IDLE to COUNTDOWN to REACTION
to RESOLUTION, RESOLUTION to COUNTDOWN or GAME_OVER, GAME_OVER to IDLE (43_game_fsm.md section 10; the ranges
of `upc` behind `stateOf` are written out in `StatusWordsShowRegisters`). -/
def Obligations.TopLevelTransitionsOnly : Prop :=
  ∀ s t : State, s.client.script = [] → s.pins.rst = false → step s = .next t →
    stateOf t.seq.upc = stateOf s.seq.upc ∨
    (stateOf s.seq.upc, stateOf t.seq.upc) ∈
      [(0#3, 1#3), (0#3, 7#3), (1#3, 2#3), (2#3, 3#3), (3#3, 4#3), (4#3, 2#3), (4#3, 5#3), (5#3, 1#3)]

/-- The LED port of the sequencer: `led_cmd_valid` is 1 in nine steps, with the word of the step written out,
and in no other; `led_cmd` is 0 whenever it is 0; and a command that is not accepted stands unchanged in the
next cycle (43_game_fsm.md section 2, 30_encoding.md section 8, 00_scope.md section 5). The premise
`clientWord = none` is the model's: in a cycle of a client's word the client replaces the sequencer
(log 12). -/
def Obligations.LedPortCarriesWordOfStep : Prop :=
  (∀ s : State, s.clientWord = none →
    let lit (k : Colour) : LedWord := match k with
      | .red => 0x20#8 ++ s.cfg.posRed ++ s.cfg.ledLevel ++ 0#8 ++ 0#8
      | .green => 0x20#8 ++ s.cfg.posGreen ++ 0#8 ++ s.cfg.ledLevel ++ 0#8
      | .blue => 0x20#8 ++ s.cfg.posBlue ++ 0#8 ++ 0#8 ++ s.cfg.ledLevel
    (s.seq.upc = 0 → s.ledPort = some 0x100000000000) ∧
    (s.seq.upc = 7 → s.ledPort = some (lit s.seq.slot)) ∧
    (s.seq.upc = 16 → s.ledPort = some (lit s.seq.target)) ∧
    (s.seq.upc ∈ [11#6, 32#6] → s.ledPort = some 0x300000000000) ∧
    (s.seq.upc ∈ [8#6, 12#6, 17#6, 33#6] → s.ledPort = some 0x400000000000) ∧
    (s.seq.upc ∉ [0#6, 7#6, 8#6, 11#6, 12#6, 16#6, 17#6, 32#6, 33#6] → s.ledPort = none)) ∧
  (∀ s : State, (s.ledCmdValid = true ↔ s.ledPort = some s.ledCmd) ∧
    (s.ledCmdValid = false → s.ledCmd = 0)) ∧
  (∀ s t : State, s.clientWord = none → t.clientWord = none → s.pins.rst = false → step s = .next t →
    s.ledCmdValid = true → s.led.ready = false → t.ledPort = s.ledPort)
end

