-- ==== Sys2Proof/Laws/Memory.lean ====
section
/-! SUPPORT. The laws of the frame buffer: reading after a write, reading a filled buffer, and that every
operation keeps the canonical form. -/

namespace Sys2Proof.Machine

@[simp] theorem Memory.read_write_same (m : Memory) (i : Nat) (v : Pixel) :
    (m.write i v).read i = some v := by
  induction m with
  | nil => simp [Memory.write, Memory.read]
  | cons e m ih =>
    obtain ⟨j, w⟩ := e
    simp only [Memory.write]
    split
    · simp [Memory.read]
    · split
      · simp [Memory.read]
      · simp only [Memory.read]
        rw [if_neg (by omega), ih]

theorem Memory.read_write_other (m : Memory) {i j : Nat} (v : Pixel) (h : j ≠ i) :
    (m.write i v).read j = m.read j := by
  induction m with
  | nil => simp only [Memory.write, Memory.read]; rw [if_neg (Ne.symm h)]
  | cons e m ih =>
    obtain ⟨k, w⟩ := e
    simp only [Memory.write]
    split
    · simp only [Memory.read]; rw [if_neg (Ne.symm h)]
    · split
      · rename_i _ hik
        subst hik
        simp only [Memory.read]; rw [if_neg (Ne.symm h), if_neg (Ne.symm h)]
      · simp only [Memory.read]; rw [ih]

/-- Reading after a write, in one equation. -/
theorem Memory.read_write (m : Memory) (i j : Nat) (v : Pixel) :
    (m.write i v).read j = if j = i then some v else m.read j := by
  by_cases h : j = i
  · subst h; simp
  · rw [if_neg h, Memory.read_write_other m v h]

theorem Memory.read_map_pair (l : List Nat) (v : Pixel) (i : Nat) :
    Memory.read (l.map fun k => (k, v)) i = if i ∈ l then some v else none := by
  induction l with
  | nil => simp [Memory.read]
  | cons k l ih =>
    simp only [List.map_cons, Memory.read, ih, List.mem_cons]
    by_cases h : k = i
    · simp [h]
    · simp [h, Ne.symm h]

/-- A filled buffer of `n` elements: the value below `n`, no value from `n` on. -/
@[simp] theorem Memory.read_fill (n : Nat) (v : Pixel) (i : Nat) :
    (Memory.fill n v).read i = if i < n then some v else none := by
  simp [Memory.fill, Memory.read_map_pair]

/-- The canonical form is the strict rise of the indices. -/
theorem Memory.wf_iff (m : Memory) : m.wf = true ↔ (m.map Prod.fst).Pairwise (· < ·) := by
  induction m with
  | nil => simp [Memory.wf]
  | cons e m ih =>
    obtain ⟨i, v⟩ := e
    cases m with
    | nil => simp [Memory.wf]
    | cons f m =>
      obtain ⟨j, w⟩ := f
      simp only [Memory.wf, Bool.and_eq_true, decide_eq_true_eq, ih, List.map_cons,
        List.pairwise_cons, List.mem_cons]
      constructor
      · rintro ⟨hij, hj, hm⟩
        refine ⟨?_, hj, hm⟩
        rintro k (rfl | hk)
        · exact hij
        · exact Nat.lt_trans hij (hj k hk)
      · rintro ⟨hi, hj, hm⟩
        exact ⟨hi j (Or.inl rfl), hj, hm⟩

theorem Memory.mem_write_fst (m : Memory) (i : Nat) (v : Pixel) (k : Nat)
    (h : k ∈ (m.write i v).map Prod.fst) : k = i ∨ k ∈ m.map Prod.fst := by
  induction m with
  | nil => simpa [Memory.write] using h
  | cons e m ih =>
    obtain ⟨j, w⟩ := e
    simp only [Memory.write] at h
    split at h
    · simpa using h
    · split at h
      · simp only [List.map_cons, List.mem_cons] at h ⊢
        tauto
      · simp only [List.map_cons, List.mem_cons] at h ⊢
        rcases h with h | h
        · exact Or.inr (Or.inl h)
        · rcases ih h with h | h
          · exact Or.inl h
          · exact Or.inr (Or.inr h)

/-- A write keeps the canonical form. -/
theorem Memory.wf_write (m : Memory) (i : Nat) (v : Pixel) (h : m.wf = true) :
    (m.write i v).wf = true := by
  rw [Memory.wf_iff] at *
  induction m with
  | nil => simp [Memory.write]
  | cons e m ih =>
    obtain ⟨j, w⟩ := e
    simp only [List.map_cons, List.pairwise_cons] at h
    simp only [Memory.write]
    split
    · rename_i hij
      simp only [List.map_cons, List.pairwise_cons, List.mem_cons]
      refine ⟨?_, h.1, h.2⟩
      rintro k (rfl | hk)
      · exact hij
      · exact Nat.lt_trans hij (h.1 k hk)
    · split
      · rename_i _ hij
        subst hij
        simpa using h
      · simp only [List.map_cons, List.pairwise_cons]
        refine ⟨?_, ih h.2⟩
        intro k hk
        rcases Memory.mem_write_fst m i v k hk with hk | hk
        · omega
        · exact h.1 k hk

/-- A filled buffer is canonical. -/
theorem Memory.wf_fill (n : Nat) (v : Pixel) : (Memory.fill n v).wf = true := by
  rw [Memory.wf_iff]
  simpa [Memory.fill, Function.comp_def] using List.pairwise_lt_range

/-- The frame buffer of the machine after reset is canonical. -/
theorem Memory.wf_reset : State.reset.led.fb.wf = true := rfl

theorem Memory.read_isSome_iff (m : Memory) (i : Nat) :
    (m.read i).isSome = true ↔ i ∈ m.map Prod.fst := by
  induction m with
  | nil => simp [Memory.read]
  | cons e m ih =>
    obtain ⟨j, w⟩ := e
    simp only [Memory.read, List.map_cons, List.mem_cons]
    by_cases h : j = i
    · simp [h]
    · simp [h, ih, Ne.symm h]

/-- Two canonical buffers that read alike are the same data. -/
theorem Memory.ext_of_wf (m n : Memory) (hm : m.wf = true) (hn : n.wf = true)
    (h : ∀ i, m.read i = n.read i) : m = n := by
  rw [Memory.wf_iff] at hm hn
  induction m generalizing n with
  | nil =>
    cases n with
    | nil => rfl
    | cons f n => have := h f.1; simp [Memory.read] at this
  | cons e m ih =>
    obtain ⟨i, v⟩ := e
    cases n with
    | nil => have := h i; simp [Memory.read] at this
    | cons f n =>
      obtain ⟨j, w⟩ := f
      simp only [List.map_cons, List.pairwise_cons] at hm hn
      have hij : i = j := by
        have hi := (Memory.read_isSome_iff ((j, w) :: n) i).mp (by rw [← h i]; simp [Memory.read])
        have hj := (Memory.read_isSome_iff ((i, v) :: m) j).mp (by rw [h j]; simp [Memory.read])
        simp only [List.map_cons, List.mem_cons] at hi hj
        rcases hi with hi | hi
        · exact hi
        · rcases hj with hj | hj
          · exact hj.symm
          · exact absurd (hn.1 i hi) (by have := hm.1 j hj; omega)
      subst hij
      have hv : v = w := by simpa [Memory.read] using h i
      subst hv
      congr 1
      refine ih n hm.2 hn.2 fun k => ?_
      by_cases hk : i = k
      · subst hk
        have a : ¬ (Memory.read m i).isSome = true := by
          rw [Memory.read_isSome_iff]; exact fun c => Nat.lt_irrefl i (hm.1 i c)
        have b : ¬ (Memory.read n i).isSome = true := by
          rw [Memory.read_isSome_iff]; exact fun c => Nat.lt_irrefl i (hn.1 i c)
        rw [Option.not_isSome_iff_eq_none] at a b
        rw [a, b]
      · have := h k
        simpa [Memory.read, hk] using this

end Sys2Proof.Machine
end

