-- ==== Sys2Proof/Laws/State.lean ====
section
/-! SUPPORT. The fields of the states that the block's updates make: one lemma for each field of each
update, so that no later proof unfolds a record update. -/

namespace Sys2Proof.Machine

/-! ## `State.clocked` -/

@[simp] theorem State.clocked_cfg (d : Drives) (q : Seq) (s : State) : (s.clocked d q).cfg = s.cfg := rfl

@[simp] theorem State.clocked_led (d : Drives) (q : Seq) (s : State) :
    (s.clocked d q).led = s.led.cycle s.cfg d.led := rfl

@[simp] theorem State.clocked_latch (d : Drives) (q : Seq) (s : State) :
    (s.clocked d q).latch = s.latch.cycle s.cfg d.latch s.sampleA s.sampleB := rfl

@[simp] theorem State.clocked_timer (d : Drives) (q : Seq) (s : State) :
    (s.clocked d q).timer = s.timer.tick s.cfg := rfl

@[simp] theorem State.clocked_seq (d : Drives) (q : Seq) (s : State) : (s.clocked d q).seq = q := rfl

@[simp] theorem State.clocked_collab (d : Drives) (q : Seq) (s : State) :
    (s.clocked d q).collab = s.collab.cycle d s.pins := rfl

@[simp] theorem State.clocked_client (d : Drives) (q : Seq) (s : State) :
    (s.clocked d q).client = s.client := rfl

@[simp] theorem State.clocked_env (d : Drives) (q : Seq) (s : State) : (s.clocked d q).env = s.env := rfl

@[simp] theorem State.clocked_cycle (d : Drives) (q : Seq) (s : State) :
    (s.clocked d q).cycle = s.cycle := rfl

/-! ## `State.advance` -/

@[simp] theorem State.advance_cfg (s t : State) : (s.advance t).cfg = t.cfg := rfl

@[simp] theorem State.advance_led (s t : State) : (s.advance t).led = t.led := rfl

@[simp] theorem State.advance_latch (s t : State) : (s.advance t).latch = t.latch := rfl

@[simp] theorem State.advance_timer (s t : State) : (s.advance t).timer = t.timer := rfl

@[simp] theorem State.advance_seq (s t : State) : (s.advance t).seq = t.seq := rfl

@[simp] theorem State.advance_collab (s t : State) : (s.advance t).collab = t.collab := rfl

@[simp] theorem State.advance_client (s t : State) : (s.advance t).client = s.nextClient := rfl

@[simp] theorem State.advance_env (s t : State) : (s.advance t).env = s.env.tail := rfl

@[simp] theorem State.advance_cycle (s t : State) : (s.advance t).cycle = s.cycle + 1 := rfl

/-! ## `State.resetEdge` -/

@[simp] theorem State.resetEdge_cfg (s : State) : s.resetEdge.cfg = s.cfg := rfl

@[simp] theorem State.resetEdge_led (s : State) : s.resetEdge.led = Led.atReset := rfl

@[simp] theorem State.resetEdge_latch (s : State) : s.resetEdge.latch = Latch.atReset s.cfg := rfl

@[simp] theorem State.resetEdge_timer (s : State) : s.resetEdge.timer = Timer.atReset := rfl

@[simp] theorem State.resetEdge_seq (s : State) : s.resetEdge.seq = Seq.atReset := rfl

@[simp] theorem State.resetEdge_collab (s : State) : s.resetEdge.collab = s.collab := rfl

@[simp] theorem State.resetEdge_client (s : State) : s.resetEdge.client = s.client := rfl

@[simp] theorem State.resetEdge_env (s : State) : s.resetEdge.env = s.env.tail := rfl

@[simp] theorem State.resetEdge_cycle (s : State) : s.resetEdge.cycle = s.cycle + 1 := rfl

/-! ## The LED driver's errors -/

@[simp] theorem Led.raiseError_st (e : LedError) (l : Led) : (l.raiseError e).st = l.st := rfl

@[simp] theorem Led.raiseError_fb (e : LedError) (l : Led) : (l.raiseError e).fb = l.fb := rfl

@[simp] theorem Led.raiseError_pix (e : LedError) (l : Led) : (l.raiseError e).pix = l.pix := rfl

@[simp] theorem Led.raiseError_bit (e : LedError) (l : Led) : (l.raiseError e).bit = l.bit := rfl

@[simp] theorem Led.raiseError_cnt (e : LedError) (l : Led) : (l.raiseError e).cnt = l.cnt := rfl

@[simp] theorem Led.raiseError_err (e : LedError) (l : Led) :
    (l.raiseError e).err = l.err ||| errorBit e := rfl

@[simp] theorem Led.raiseFatal_st (l : Led) : l.raiseFatal.st = .fatal := rfl

@[simp] theorem Led.raiseFatal_fb (l : Led) : l.raiseFatal.fb = l.fb := rfl

@[simp] theorem Led.raiseFatal_err (l : Led) : l.raiseFatal.err = l.err ||| errorBit .noChannel := rfl

/-! ## The status-LED write -/

@[simp] theorem Seq.withSled_upc (r g b : BitVec 7) (q : Seq) : (q.withSled r g b).upc = q.upc := rfl

@[simp] theorem Seq.withSled_score (r g b : BitVec 7) (q : Seq) : (q.withSled r g b).score = q.score := rfl

end Sys2Proof.Machine
end

