-- ==== Sys2Proof/Laws/Ops.lean ====
section
/-! SUPPORT. What each shared operation can do, said once: provers cite these and do not unfold the
operations. -/

namespace Sys2Proof.Machine

/-! ## One clock edge -/

/-- An edge at which the serializer's read exists answers the clocked state. -/
theorem clockEdge_eq {d : Drives} {q : Seq} {s : State} (h : s.led.readsInRange s.cfg = true) :
    clockEdge d q s = .next (s.clocked d q) := by
  simp [clockEdge, h]

/-- All an edge can do: a next state is the clocked state. -/
theorem clockEdge_next {d : Drives} {q : Seq} {s t : State} (h : clockEdge d q s = .next t) :
    s.led.readsInRange s.cfg = true ∧ t = s.clocked d q := by
  unfold clockEdge at h
  split at h
  · exact ⟨‹_›, by injection h with h; exact h.symm⟩
  · cases h

/-- All a step of the sequencer can do: its drives act, and its registers take `q` or hold. -/
theorem stepEdge_next {u : StepCode} {done : Bool} {q : Seq} {s t : State}
    (h : stepEdge u done q s = .next t) :
    s.led.readsInRange s.cfg = true ∧
      t = s.clocked (stepDrives u s) (if done then q else s.seq) :=
  clockEdge_next h

/-- All a client's word can do: the sequencer's registers hold. -/
theorem clientEdge_next {d : Drives} {s t : State} (h : clientEdge d s = .next t) :
    s.led.readsInRange s.cfg = true ∧ t = s.clocked d s.seq :=
  clockEdge_next h

/-- The serializer's read can fail only in TX. -/
theorem Led.readsInRange_of_not_tx {c : Config} {l : Led} (h : l.st ≠ .tx) :
    l.readsInRange c = true := by
  simp [Led.readsInRange, h]

/-! ## The LED driver -/

/-- A ready driver runs the command presented. -/
theorem Led.cycle_some_of_ready {c : Config} {k : LedCmd} {l : Led} (h : l.ready = true) :
    l.cycle c (some k) = Led.run c k l := by
  simp only [Led.ready, decide_eq_true_eq] at h
  rcases h with h | h <;> simp [Led.cycle, h]

/-- A ready driver to which nothing is presented holds. -/
theorem Led.cycle_none_of_ready {c : Config} {l : Led} (h : l.ready = true) : l.cycle c none = l := by
  simp only [Led.ready, decide_eq_true_eq] at h
  rcases h with h | h <;> simp [Led.cycle, h]

/-- A driver that is not ready takes no notice of a command. -/
theorem Led.cycle_of_not_ready {c : Config} {k : Option LedCmd} {l : Led} (h : l.ready = false) :
    l.cycle c k = l.cycle c none := by
  simp only [Led.ready, decide_eq_false_iff_not, not_or] at h
  cases hs : l.st <;> simp_all [Led.cycle]

/-- In FATAL nothing changes. -/
theorem Led.cycle_fatal {c : Config} {k : Option LedCmd} {l : Led} (h : l.st = .fatal) :
    l.cycle c k = l := by
  simp [Led.cycle, h]

@[simp] theorem Led.txCycle_fb (c : Config) (l : Led) : (l.txCycle c).fb = l.fb := by
  unfold Led.txCycle; split <;> (try split) <;> (try split) <;> rfl

@[simp] theorem Led.txCycle_err (c : Config) (l : Led) : (l.txCycle c).err = l.err := by
  unfold Led.txCycle; split <;> (try split) <;> (try split) <;> rfl

@[simp] theorem Led.latchCycle_fb (c : Config) (l : Led) : (l.latchCycle c).fb = l.fb := by
  unfold Led.latchCycle; split <;> rfl

@[simp] theorem Led.latchCycle_err (c : Config) (l : Led) : (l.latchCycle c).err = l.err := by
  unfold Led.latchCycle; split <;> rfl

/-- Without a command no element of the buffer changes. -/
@[simp] theorem Led.cycle_none_fb (c : Config) (l : Led) : (l.cycle c none).fb = l.fb := by
  unfold Led.cycle; split <;> simp

/-- Without a command no error bit changes. -/
@[simp] theorem Led.cycle_none_err (c : Config) (l : Led) : (l.cycle c none).err = l.err := by
  unfold Led.cycle; split <;> simp

/-! ## The collaborators -/

/-- Without a request the record holds. -/
@[simp] theorem Collab.cycle_none (op : LatchWord) (k : Option LedCmd) (p : Pins) (r : Collab) :
    r.cycle { led := k, latch := op } p = r := by
  simp [Collab.cycle]

/-! ## Deadlines and points -/

/-- A deadline test, as a comparison of the unsigned 32-bit difference (43_game_fsm.md R218). -/
theorem deadline_iff (now t : Micros) (d : Nat) : deadline now t d = true ↔ d ≤ (now - t).toNat := by
  rw [deadline, decide_eq_true_eq, elapsed]

/-- A choice by a deadline test. -/
theorem ite_deadline {α : Type} (now t : Micros) (d : Nat) (a b : α) :
    (if deadline now t d = true then a else b) = if d ≤ (now - t).toNat then a else b := by
  by_cases h : d ≤ (now - t).toNat
  · rw [if_pos h, if_pos ((deadline_iff now t d).mpr h)]
  · rw [if_neg h, if_neg (fun c => h ((deadline_iff now t d).mp c))]

/-- A hit before the deadline awards 1 to 700 points (43_game_fsm.md R260). -/
theorem pointsAt_toNat {us : Nat} (h : us < 700000) :
    (pointsAt us).toNat = 700 - us / 1000 ∧ 1 ≤ (pointsAt us).toNat ∧ (pointsAt us).toNat ≤ 700 := by
  have hd : us / 1000 < 700 := by omega
  have : (pointsAt us).toNat = 700 - us / 1000 := by
    simp only [pointsAt, windowMs, BitVec.toNat_ofNat]
    exact Nat.mod_eq_of_lt (by omega)
  omega

/-! ## One step -/

/-- All a step can do: reset, or the instruction of the cycle with the client and the inputs passed on. -/
theorem step_cases {s t : State} (h : step s = .next t) :
    (s.pins.rst = true ∧ t = s.resetEdge) ∨
      (s.pins.rst = false ∧ ∃ i t', s.fetch = .ok i ∧ exec i s = .next t' ∧ t = s.advance t') := by
  unfold step at h
  cases hr : s.pins.rst with
  | true =>
    rw [hr, if_pos rfl] at h
    injection h with h
    exact Or.inl ⟨rfl, h.symm⟩
  | false =>
    rw [hr, if_neg (by simp)] at h
    refine Or.inr ⟨rfl, ?_⟩
    split at h
    · rename_i i hf
      refine ⟨i, ?_⟩
      cases he : exec i s with
      | next t' =>
        rw [he] at h
        injection h with h
        exact ⟨t', hf, rfl, h.symm⟩
      | fault f => rw [he] at h; cases h
      | refused r => rw [he] at h; cases h
    · cases h

/-- Without a script the instruction of a cycle is the step `upc` selects. -/
theorem State.fetch_of_no_script {s : State} (h : s.client.script = []) :
    s.fetch = .ok (decodeStep s.seq.upc) := by
  simp [State.fetch, State.clientWord, State.script, h, decode]

/-- Without a script the client stays without one. -/
theorem State.nextClient_script_of_no_script {s : State} (h : s.client.script = []) :
    s.nextClient.script = [] := by
  simp [State.nextClient, State.nextScript, State.script, h]

end Sys2Proof.Machine
end

