-- ==== Sys2Proof/Laws/Edges.lean ====
section
/-! SUPPORT. What an edge leaves alone: `EdgeRest`, `NoLedCommand` and `QuietEdge` of every clocked state,
and the drives of every step. -/

namespace Sys2Proof.Machine

/-- Outside the driver, the sequencer and the record, an edge is its own frame. -/
theorem edgeRest_clocked {d : Drives} {op : LatchWord} (q : Seq) (s : State) (h : d.latch = op) :
    EdgeRest op s (s.clocked d q) :=
  ⟨rfl, by rw [State.clocked_latch, h], rfl, rfl, rfl, rfl⟩

/-- An edge without an LED command. -/
theorem noLedCommand_clocked {d : Drives} (q : Seq) (s : State) (h : d.led = none) :
    NoLedCommand s (s.clocked d q) :=
  ⟨by simp [h], fun a => by simp [h]⟩

/-- A driver that is not ready takes no LED command. -/
theorem noLedCommand_of_not_ready {d : Drives} (q : Seq) (s : State) (h : s.led.ready = false) :
    NoLedCommand s (s.clocked d q) :=
  ⟨by simp [Led.cycle_of_not_ready h], fun a => by simp [Led.cycle_of_not_ready h]⟩

/-- An edge at which the ports are silent. -/
theorem quietEdge_clocked (q : Seq) (s : State) : QuietEdge s (s.clocked {} q) :=
  ⟨edgeRest_clocked q s rfl, noLedCommand_clocked q s rfl, by simp⟩

/-- A driver that is not transmitting has its read in range. -/
theorem Led.readsInRange_of_ready {c : Config} {l : Led} (h : l.ready = true) :
    l.readsInRange c = true := by
  apply Led.readsInRange_of_not_tx
  intro e
  simp [Led.ready, e] at h

/-- A read in range stays in range: the serializer counts down a pixel's bits and up to the last pixel. -/
theorem Led.readsInRange_cycle_none {c : Config} {l : Led} (h : l.readsInRange c = true) :
    (l.cycle c none).readsInRange c = true := by
  by_cases hst : l.st = .tx
  · simp only [Led.readsInRange, decide_eq_true_eq] at h
    obtain ⟨hp, hb⟩ := h hst
    simp only [Led.cycle, hst, Led.txCycle]
    split
    · split
      · split
        · simp [Led.readsInRange]
        · rename_i hx
          have : (l.pix + 1).toNat < c.pixels := by
            rw [BitVec.toNat_add]; simp; omega
          simp only [Led.readsInRange, decide_eq_true_eq]
          exact fun _ => ⟨this, (by decide : (23#5).toNat < 24)⟩
      · rename_i hx
        have hne : l.bit.toNat ≠ 0 := fun hc => hx (BitVec.eq_of_toNat_eq (by simpa using hc))
        have : (l.bit - 1).toNat < 24 := by rw [BitVec.toNat_sub]; simp; omega
        simp only [Led.readsInRange, decide_eq_true_eq]
        exact fun _ => ⟨hp, this⟩
    · simp only [Led.readsInRange, decide_eq_true_eq]
      exact fun _ => ⟨hp, hb⟩
  · apply Led.readsInRange_of_not_tx
    cases hs : l.st with
    | tx => exact absurd hs hst
    | latch => simp only [Led.cycle, hs, Led.latchCycle]; split <;> simp_all
    | uninit => simp [Led.cycle, hs]
    | idle => simp [Led.cycle, hs]
    | fatal => simp [Led.cycle, hs]

/-- A step that drives nothing, done or not, is a quiet edge. -/
theorem stepEdge_quiet {u : StepCode} {done : Bool} {q : Seq} {s : State}
    (hd : stepDrives u s = {}) (h : s.led.readsInRange s.cfg = true) :
    ∃ t, stepEdge u done q s = .next t ∧ QuietEdge s t ∧ t.seq = if done then q else s.seq :=
  ⟨_, clockEdge_eq h, by rw [hd]; exact quietEdge_clocked _ _, rfl⟩

/-- A step that drives no LED command. -/
theorem stepEdge_noLed {u : StepCode} {done : Bool} {q : Seq} {s : State}
    (hd : (stepDrives u s).led = none) (h : s.led.readsInRange s.cfg = true) :
    ∃ t, stepEdge u done q s = .next t ∧ EdgeRest (latchDrive u s) s t ∧ NoLedCommand s t ∧
      (t.seq = if done then q else s.seq) ∧ t.collab = s.collab.cycle (stepDrives u s) s.pins :=
  ⟨_, clockEdge_eq h, edgeRest_clocked _ _ rfl, noLedCommand_clocked _ _ hd, rfl, rfl⟩

/-- A step that presents an LED command and nothing else. -/
theorem stepEdge_led {u : StepCode} {done : Bool} {q : Seq} {s : State} {k : LedCmd}
    (hd : stepDrives u s = { led := some k }) (h : s.led.readsInRange s.cfg = true) :
    ∃ t, stepEdge u done q s = .next t ∧ EdgeRest 0b00 s t ∧ t.collab = s.collab ∧
      (t.seq = if done then q else s.seq) ∧ t.led = s.led.cycle s.cfg (some k) ∧
      (s.led.ready = false → NoLedCommand s t) :=
  ⟨_, clockEdge_eq h, edgeRest_clocked _ _ (by rw [hd]), by rw [hd]; simp, rfl, by rw [hd]; rfl,
    fun hr => noLedCommand_of_not_ready _ _ hr⟩

/-- A client's LED command on a ready port. -/
theorem presentLed_ready {k : LedCmd} {s : State} (h : s.led.ready = true) :
    ∃ t, clientEdge { led := some k } s = .next t ∧ t.seq = s.seq ∧ t.collab = s.collab ∧
      EdgeRest 0b00 s t ∧ t.led = Led.run s.cfg k s.led :=
  ⟨_, clockEdge_eq (Led.readsInRange_of_ready h), rfl, by simp, edgeRest_clocked _ _ rfl,
    Led.cycle_some_of_ready h⟩

end Sys2Proof.Machine
end

