-- ==== Sys2Proof/Laws/Encoding.lean ====
section
/-! SUPPORT. Laws of the LED command word: its well-formedness test as a proposition, and its fields. -/

namespace Sys2Proof

/-- What `wf` says (30_encoding.md R91). -/
theorem lcmdWf_iff (w : LedWord) :
    lcmdWf w = true ↔
      (lcmdOp w).toNat ≤ 4 ∧ lcmdRsv w = 0 ∧ (lcmdOp w = 2 ∨ lcmdOperands w = 0) := by
  rw [lcmdWf, Bool.and_eq_true, Bool.and_eq_true, Bool.or_eq_true, decide_eq_true_eq, decide_eq_true_eq,
    decide_eq_true_eq, decide_eq_true_eq, and_assoc]

/-- The number of two fields side by side. -/
theorem toNat_append_add {m n : Nat} (x : BitVec m) (y : BitVec n) :
    (x ++ y).toNat = x.toNat * 2 ^ n + y.toNat := by
  rw [BitVec.toNat_append, ← Nat.shiftLeft_add_eq_or_of_lt y.isLt, Nat.shiftLeft_eq]

/-- The number of a SET_PIXEL word. -/
theorem setPixelWord_toNat (idx : BitVec 16) (r g b : BitVec 8) :
    (setPixelWord idx r g b).toNat =
      (((0x20 * 2 ^ 16 + idx.toNat) * 2 ^ 8 + r.toNat) * 2 ^ 8 + g.toNat) * 2 ^ 8 + b.toNat := by
  unfold setPixelWord
  rw [toNat_append_add, toNat_append_add, toNat_append_add, toNat_append_add]
  rfl

/-- The word of a SET_PIXEL is read back field by field (30_encoding.md R89, R93). -/
theorem decodeLcmd_setPixelWord (idx : BitVec 16) (r g b : BitVec 8) :
    decodeLcmd (setPixelWord idx r g b) = .setPixel idx r g b := by
  have hn := setPixelWord_toNat idx r g b
  have hm : setPixelWord idx r g b &&& 0xFF0000000000#48 = 0x200000000000#48 := by
    have : 0xFF0000000000#48 = 0xff#8 ++ 0#16 ++ 0#8 ++ 0#8 ++ 0#8 := by decide
    unfold setPixelWord
    rw [this, BitVec.and_append, BitVec.and_append, BitVec.and_append, BitVec.and_append]
    simp only [BitVec.and_zero]
    decide
  have hne : ∀ v : LedWord, v.toNat / 2 ^ 40 ≠ 0x20 →
      ¬ setPixelWord idx r g b &&& 0xFFFFFFFFFFFF#48 = v := by
    intro v hv hc
    rw [show 0xFFFFFFFFFFFF#48 = BitVec.allOnes 48 by decide, BitVec.and_allOnes] at hc
    apply hv
    rw [← hc, hn]
    omega
  unfold decodeLcmd
  rw [if_neg (hne _ (by decide)), if_neg (hne _ (by decide)), if_pos hm]
  have field : ∀ {w n : Nat} (v : BitVec w),
      (setPixelWord idx r g b).toNat / 2 ^ n % 2 ^ w = v.toNat →
      (setPixelWord idx r g b).extractLsb' n w = v := fun v h => by
    apply BitVec.eq_of_toNat_eq
    rw [BitVec.extractLsb'_toNat, Nat.shiftRight_eq_div_pow, h]
  rw [lcmdIdx, lcmdR, lcmdG, lcmdB, field idx (by omega), field r (by omega), field g (by omega),
    field b (by omega)]

/-- The fields of a tone word (30_encoding.md R99). -/
theorem toneWord_fields (f d : BitVec 16) (v : BitVec 8) :
    (toneWord f d v).extractLsb' 24 16 = f ∧ (toneWord f d v).extractLsb' 8 16 = d ∧
      (toneWord f d v).extractLsb' 0 8 = v := by
  have hf := f.isLt
  have hd := d.isLt
  have hv := v.isLt
  refine ⟨BitVec.eq_of_toNat_eq ?_, BitVec.eq_of_toNat_eq ?_, BitVec.eq_of_toNat_eq ?_⟩ <;>
  · rw [toneWord, BitVec.extractLsb'_toNat, toNat_append_add, toNat_append_add, Nat.shiftRight_eq_div_pow]
    omega

/-- The fields of a display word (30_encoding.md R100). -/
theorem dispWord_fields (c : BitVec 4) (n : BitVec 16) :
    (dispWord c n).extractLsb' 16 4 = c ∧ (dispWord c n).extractLsb' 0 16 = n := by
  have hc := c.isLt
  have hn := n.isLt
  refine ⟨BitVec.eq_of_toNat_eq ?_, BitVec.eq_of_toNat_eq ?_⟩ <;>
  · rw [dispWord, BitVec.extractLsb'_toNat, toNat_append_add, Nat.shiftRight_eq_div_pow]
    omega

end Sys2Proof
end

