-- ==== Sys2Proof/Laws/Step.lean ====
section
/-! SUPPORT. What one step can do, said once: an edge at which the ports carry what `State.ledPort`,
`State.latchPort`, `State.tonePort` and `State.dispPort` say. -/

namespace Sys2Proof.Machine

/-- All the step of a code can do: an edge with the drives of that code. -/
theorem exec_step_next {u : StepCode} {s t : State} (h : exec (decodeStep u) s = .next t) :
    s.led.readsInRange s.cfg = true ∧ ∃ q, t = s.clocked (stepDrives u s) q := by
  obtain ⟨⟨n, hn⟩⟩ := u
  have key : ∀ v done q, stepEdge v done q s = .next t →
      s.led.readsInRange s.cfg = true ∧ ∃ q, t = s.clocked (stepDrives v s) q := fun v done q h =>
    ⟨(stepEdge_next h).1, _, (stepEdge_next h).2⟩
  have hn' : n < 64 := hn
  interval_cases n
  all_goals first
    | exact key _ _ _ h
    | skip
  · change execStepRwDraw s = _ at h
    unfold execStepRwDraw at h
    split at h <;> exact key _ _ _ h
  · change execStepRwPoll s = _ at h
    unfold execStepRwPoll at h
    split at h <;> exact key _ _ _ h

/-- What a word on its port drives. -/
def portDrives : PortWord → Drives
  | .lcmd w => { led := some (decodeLcmd w) }
  | .latch w => { latch := w }
  | .tone w => { tone := some w }
  | .disp w => { disp := some w }
  | .sled _ => {}

/-- The sequencer's registers after a cycle in which `q` holds the status-LED write of a word, if any. -/
def portSeq (q : Seq) : PortWord → Seq
  | .sled w => q.withSled (w.extractLsb' 14 7) (w.extractLsb' 7 7) (w.extractLsb' 0 7)
  | .lcmd _ | .latch _ | .tone _ | .disp _ => q

/-- A request word is its two parts. -/
theorem toneWord_of_request {w : ToneWord} {f d : BitVec 16} (h : w.extractLsb' 8 32 = f ++ d) :
    toneWord f d (w.extractLsb' 0 8) = w := by
  unfold toneWord
  rw [← h]
  apply BitVec.eq_of_toNat_eq
  rw [toNat_append_add, BitVec.extractLsb'_toNat, BitVec.extractLsb'_toNat, Nat.shiftRight_eq_div_pow,
    Nat.shiftRight_eq_div_pow]
  omega

/-- A display word is its two parts. -/
theorem dispWord_of_screen {w : DispWord} {c : BitVec 4} (h : w.extractLsb' 16 4 = c) :
    dispWord c (w.extractLsb' 0 16) = w := by
  unfold dispWord
  rw [← h]
  apply BitVec.eq_of_toNat_eq
  rw [toNat_append_add, BitVec.extractLsb'_toNat, BitVec.extractLsb'_toNat, Nat.shiftRight_eq_div_pow,
    Nat.shiftRight_eq_div_pow]
  omega

/-- All a client's word can do: an edge at which the word stands on its port, the sequencer's registers
holding but for the percentages of a status-LED word, which are at most 100. -/
theorem exec_port_next {p : PortWord} {i : Instr} {s t : State} (hd : decode (.port p) = .ok i)
    (h : exec i s = .next t) :
    s.led.readsInRange s.cfg = true ∧ t = s.clocked (portDrives p) (portSeq s.seq p) ∧
      ∀ w, p = .sled w →
        percentsOk (w.extractLsb' 14 7) (w.extractLsb' 7 7) (w.extractLsb' 0 7) = true := by
  cases p with
  | lcmd w =>
    refine ⟨?_, ?_, fun _ c => by cases c⟩ <;>
    · simp only [decode, Except.ok.injEq] at hd
      subst hd
      simp only [decodeLcmdWord] at h
      cases hc : decodeLcmd w <;> rw [hc] at h
      all_goals first
        | exact (clientEdge_next h).1
        | (rw [portDrives, hc]; exact (clientEdge_next h).2)
  | latch w =>
    have key : exec i s = clientEdge { latch := w } s := by
      simp only [decode, Except.ok.injEq] at hd
      subst hd
      revert w
      have : ∀ w : LatchWord, w = 0 ∨ w = 1 ∨ w = 2 ∨ w = 3 := by decide
      intro w
      rcases this w with rfl | rfl | rfl | rfl <;> intro h <;> rfl
    rw [key] at h
    exact ⟨(clientEdge_next h).1, (clientEdge_next h).2, fun _ c => by cases c⟩
  | tone w =>
    have key : exec i s = clientEdge { tone := some w } s := by
      have he : ∀ {f d : BitVec 16}, w.extractLsb' 8 32 = f ++ d →
          presentTone f d (w.extractLsb' 0 8) s = clientEdge { tone := some w } s := fun hw => by
        rw [presentTone, toneWord_of_request hw]
      simp only [decode, decodeTone] at hd
      split_ifs at hd with h1 h2 h3 h4 h5 <;> injection hd with hd <;> subst hd
      · exact he (f := 800) (d := 100) h1
      · exact he (f := 1000) (d := 100) h2
      · exact he (f := 1200) (d := 100) h3
      · exact he (f := 400) (d := 300) h4
      · exact he (f := 300) (d := 300) h5
    rw [key] at h
    exact ⟨(clientEdge_next h).1, (clientEdge_next h).2, fun _ c => by cases c⟩
  | disp w =>
    have key : exec i s = clientEdge { disp := some w } s := by
      have he : ∀ {c : BitVec 4}, w.extractLsb' 16 4 = c →
          presentDisp c (w.extractLsb' 0 16) s = clientEdge { disp := some w } s := fun hw => by
        rw [presentDisp, dispWord_of_screen hw]
      simp only [decode, decodeDisp] at hd
      split_ifs at hd with h1 h2 h3 h4 h5 <;> injection hd with hd <;> subst hd
      · exact he h1
      · exact he h2
      · exact he h3
      · exact he h4
      · exact he h5
    rw [key] at h
    exact ⟨(clientEdge_next h).1, (clientEdge_next h).2, fun _ c => by cases c⟩
  | sled w =>
    simp only [decode, decodeSled] at hd
    split_ifs at hd with hp
    injection hd with hd
    subst hd
    simp only [exec, execSled] at h
    rw [if_pos hp] at h
    exact ⟨(clockEdge_next h).1, (clockEdge_next h).2, fun _ c => by injection c with c; subst c; exact hp⟩

/-- What stands on the ports in a cycle. -/
def State.drives (s : State) : Drives :=
  { led := s.ledPort.map decodeLcmd, latch := s.latchPort, tone := s.tonePort, disp := s.dispPort }

theorem State.drives_of_word {s : State} {p : PortWord} (h : s.clientWord = some p) :
    s.drives = portDrives p := by
  cases p <;> simp [State.drives, State.ledPort, State.latchPort, State.tonePort, State.dispPort, h, portDrives]

theorem State.drives_of_none {s : State} (h : s.clientWord = none) :
    s.drives = stepDrives s.seq.upc s := by
  simp [State.drives, State.ledPort, State.latchPort, State.tonePort, State.dispPort, h, stepDrives]

/-- All a step without reset can do: one edge of the block at which the ports carry `State.drives`, from
either the sequencer's step or the client's word. -/
theorem step_next {s t : State} (hr : s.pins.rst = false) (h : step s = .next t) :
    s.led.readsInRange s.cfg = true ∧
      ∃ q, t = s.advance (s.clocked s.drives q) ∧
        ((s.clientWord = none ∧ exec (decodeStep s.seq.upc) s = .next (s.clocked s.drives q)) ∨
          (∃ p, s.clientWord = some p ∧ q = portSeq s.seq p ∧ ∀ w, p = .sled w →
            percentsOk (w.extractLsb' 14 7) (w.extractLsb' 7 7) (w.extractLsb' 0 7) = true)) := by
  rcases step_cases h with ⟨hr', _⟩ | ⟨_, i, t', hf, he, rfl⟩
  · rw [hr] at hr'; cases hr'
  · cases hw : s.clientWord with
    | none =>
      have hi : i = decodeStep s.seq.upc := by simpa [State.fetch, hw, decode] using hf.symm
      subst hi
      obtain ⟨hrd, q, rfl⟩ := exec_step_next he
      rw [← State.drives_of_none hw] at he ⊢
      exact ⟨hrd, q, rfl, Or.inl ⟨rfl, he⟩⟩
    | some p =>
      have hi : decode (.port p) = .ok i := by simpa [State.fetch, hw] using hf
      obtain ⟨hrd, rfl, hs⟩ := exec_port_next hi he
      rw [← State.drives_of_word hw]
      exact ⟨hrd, _, rfl, Or.inr ⟨p, rfl, rfl, hs⟩⟩

end Sys2Proof.Machine
end

