-- ==== Sys2Proof/Laws/Ports.lean ====
section
/-! SUPPORT. The request ports of the sequencer: what stands on them is a function of the configuration and the
sequencer's registers, and a step whose request is not taken holds those registers. -/

namespace Sys2Proof.Machine

/-! ## The ports of a cycle without a client's word -/

theorem State.ledPort_of_none {s : State} (h : s.clientWord = none) : s.ledPort = ledDrive s.seq.upc s := by
  simp [State.ledPort, h]

theorem State.tonePort_of_none {s : State} (h : s.clientWord = none) : s.tonePort = toneDrive s.seq.upc s := by
  simp [State.tonePort, h]

theorem State.dispPort_of_none {s : State} (h : s.clientWord = none) : s.dispPort = dispDrive s.seq.upc s := by
  simp [State.dispPort, h]

/-! ## What the drives depend on -/

theorem ledDrive_congr {u : StepCode} {s t : State} (hc : t.cfg = s.cfg) (hq : t.seq = s.seq) :
    ledDrive u t = ledDrive u s := by
  simp only [ledDrive, hc, hq]

theorem toneDrive_congr {u : StepCode} {s t : State} (hc : t.cfg = s.cfg) : toneDrive u t = toneDrive u s := by
  simp only [toneDrive, hc]

theorem dispDrive_congr {u : StepCode} {s t : State} (hq : t.seq = s.seq) : dispDrive u t = dispDrive u s := by
  simp only [dispDrive, hq]

/-! ## Waiting -/

/-- The request of step `u` is presented and not taken in this cycle. -/
def requestWaits (u : StepCode) (s : State) : Prop :=
  ((ledDrive u s).isSome = true ∧ s.led.ready = false) ∨
  ((toneDrive u s).isSome = true ∧ s.pins.toneReady = false) ∨
  ((dispDrive u s).isSome = true ∧ s.pins.dispReady = false)

/-- A step whose request waits holds every register of the sequencer. -/
theorem exec_step_waits {u : StepCode} {s t : State} (hw : requestWaits u s)
    (h : exec (decodeStep u) s = .next t) : t.seq = s.seq := by
  have key : ∀ v done q, stepEdge v done q s = .next t → done = false → t.seq = s.seq := fun v done q h hd => by
    rw [(stepEdge_next h).2, hd]; rfl
  obtain ⟨⟨n, hn⟩⟩ := u
  have hn' : n < 64 := hn
  interval_cases n <;> simp [requestWaits, ledDrive, toneDrive, dispDrive] at hw
  all_goals exact key _ _ _ h hw

/-- In a cycle without a client's word and without reset, a request that waits leaves the sequencer and the
configuration as they are. -/
theorem step_waits {s t : State} (hc : s.clientWord = none) (hr : s.pins.rst = false)
    (hw : requestWaits s.seq.upc s) (h : step s = .next t) : t.seq = s.seq ∧ t.cfg = s.cfg := by
  obtain ⟨_, q, rfl, ⟨_, he⟩ | ⟨p, hp, _⟩⟩ := step_next hr h
  · have hq := exec_step_waits hw he
    exact ⟨hq, rfl⟩
  · rw [hc] at hp; cases hp

end Sys2Proof.Machine
end

