-- ==== Sys2Proof/Laws/Run.lean ====
section
/-! SUPPORT. Runs, taken apart at their last step. -/

namespace Sys2Proof.Machine

/-- A run of `k + 1` steps is a run of `k` steps and one more. -/
theorem State.after_succ {s t : State} {k : Nat} :
    s.after (k + 1) = .next t ↔ ∃ u, s.after k = .next u ∧ step u = .next t := by
  induction k generalizing s with
  | zero =>
    simp only [State.after]
    cases h : step s with
    | next u => simp [h]
    | fault f => simp [h]
    | refused r => simp [h]
  | succ k ih =>
    rw [State.after]
    cases h : step s with
    | next u =>
      simp only [State.after, h]
      exact ih
    | fault f => simp [State.after, h]
    | refused r => simp [State.after, h]

/-- The state a run reaches is the state in its last cycle. -/
theorem State.inCycle_of_after {s t : State} {k : Nat} (h : s.after k = .next t) :
    s.inCycle k = some t := by
  simp [State.inCycle, h]

/-- A shorter run of a run without reset is without reset. -/
theorem State.noResetFor_mono {s : State} {j k : Nat} (h : s.noResetFor k) (hj : j ≤ k) :
    s.noResetFor j :=
  fun i t hi ht => h i t (Nat.lt_of_lt_of_le hi hj) ht

/-- No step changes the configuration. -/
theorem step_cfg {s t : State} (h : step s = .next t) : t.cfg = s.cfg := by
  cases hr : s.pins.rst with
  | true =>
    rcases step_cases h with ⟨_, rfl⟩ | ⟨hr', _⟩
    · rfl
    · rw [hr] at hr'; cases hr'
  | false =>
    obtain ⟨_, q, rfl, _⟩ := step_next hr h
    rfl

end Sys2Proof.Machine
end

