-- ==== Sys2Proof/Tests/Slice0.lean ====
section
/-! SUPPORT. Tests of one step each, their expected values taken from the spec (95_test_vectors.md and the
rules named), and for every obligation with hypotheses a witness that something meets them together. -/

open Sys2Proof Sys2Proof.Machine

namespace Sys2Proof.Tests

/-! ## Small states -/

/-- Four elements, the colours' positions 3, 1, 2. -/
def cfg : Config :=
  { pixels := 4, posRed := 3, posGreen := 1, posBlue := 2, ledLevel := 0x20, clkPerUs := 1, symCycles := 3,
    t0hCycles := 1, t1hCycles := 2, resetCycles := 1, volSuccess := 8, volFail := 2, pctGreen := 50,
    pctRed := 60, ledChanAvail := true }

/-- Inputs at rest, the collaborators ready. -/
def calm : Pins :=
  { rst := false, sampleA := false, sampleB := false, rnd := 0, toneReady := true, dispReady := true }

/-- The machine after reset with the LED driver in a given state, every element black where it has a value. -/
def at_ (st : LedState) : State :=
  let s := State.resetWith cfg
  let fb := if st = .uninit ∨ st = .fatal then [] else Memory.fill 4 0
  { s with led := { s.led with st := st, fb := fb, bit := if st = .tx then 23 else 0 }, env := [calm] }

/-- The machine at a step, the driver IDLE, the timer at a value. -/
def atStep (u : StepCode) (us : Micros := 0) : State :=
  let s := at_ .idle
  { s with seq := { s.seq with upc := u }, timer := { s.timer with us := us } }

/-- The machine in a warm latch. -/
def warmed (f : Latch → Latch) (s : State) : State := { s with latch := f { s.latch with warm := 3 } }

/-- The machine with other inputs in its cycle. -/
def given (p : Pins) (s : State) : State := { s with env := [p] }

/-- The machine with a client's script. -/
def scripted (items : List ClientItem) (s : State) : State := { s with client := { s.client with script := items } }

/-- A field of the next state, if there is one. -/
def field {α : Type} (r : Result) (f : State → α) : Option α :=
  match r with
  | .next t => some (f t)
  | .fault _ => none
  | .refused _ => none

/-! ## WellFormed (30_encoding.md R91, R102) -/

theorem test_wf_refuses_wf_word : (Instr.lcmdReserved 0x400000000000).wellFormed = false := by decide
theorem test_wf_refuses_set_pixel_word : (Instr.lcmdReserved 0x200000123456).wellFormed = false := by decide
theorem test_wf_refuses_sled_r : (Instr.sled 101 0 0).wellFormed = false := by decide
theorem test_wf_refuses_sled_g : (Instr.sled 0 127 0).wellFormed = false := by decide
theorem test_wf_refuses_sled_b : (Instr.sled 0 0 101).wellFormed = false := by decide
theorem test_wf_accepts :
    (Instr.sled 100 100 100).wellFormed = true ∧ (Instr.lcmdReserved 0x400000000001).wellFormed = true ∧
      (Instr.setPixel 0xFFFF 0xFF 0xFF 0xFF).wellFormed = true := by decide

/-! ## Decoding, words written out from the encodings -/

/-- 30_encoding.md R90 to R92. -/
theorem test_decode_lcmd :
    decode (.port (.lcmd 0x000000000000)) = .ok .nop ∧
    decode (.port (.lcmd 0x100000000000)) = .ok .init ∧
    decode (.port (.lcmd 0x20ABCD123456)) = .ok (.setPixel 0xABCD 0x12 0x34 0x56) ∧
    decode (.port (.lcmd 0x300000000000)) = .ok .clear ∧
    decode (.port (.lcmd 0x400000000000)) = .ok .flush ∧
    decode (.port (.lcmd 0x500000000000)) = .ok (.lcmdReserved 0x500000000000) := by decide

/-- V7, V17, V18; a reserved opcode, a reserved bit and an operand bit are never a neighbour's word (R91). -/
theorem test_decode_lcmd_reserved :
    decodeLcmdWord 0xF00000000000 = .lcmdReserved 0xF00000000000 ∧
    decodeLcmdWord 0x2100FFFF0000 = .lcmdReserved 0x2100FFFF0000 ∧
    decodeLcmdWord 0x280000000000 = .lcmdReserved 0x280000000000 ∧
    decodeLcmdWord 0x300000000001 = .lcmdReserved 0x300000000001 := by decide
theorem test_decode_lcmd_reserved_bits :
    decodeLcmdWord 0x010000000000 = .lcmdReserved 0x010000000000 ∧
    decodeLcmdWord 0x108000000000 = .lcmdReserved 0x108000000000 ∧
    decodeLcmdWord 0x400000000001 = .lcmdReserved 0x400000000001 ∧
    decodeLcmdWord 0x000000000001 = .lcmdReserved 0x000000000001 := by decide

/-- 30_encoding.md R97. -/
theorem test_decode_latch :
    decode (.port (.latch 0b00)) = .ok .latchNone ∧ decode (.port (.latch 0b01)) = .ok .latchClearAll ∧
    decode (.port (.latch 0b10)) = .ok (.latchReserved false) ∧
    decode (.port (.latch 0b11)) = .ok (.latchReserved true) := by decide

/-- 30_encoding.md R109; any other request is rejected by name. -/
theorem test_decode_tone :
    decode (.port (.tone 0x0320006408)) = .ok (.toneRwT1 0x08) ∧
    decode (.port (.tone 0x03E80064FF)) = .ok (.toneRwT2 0xFF) ∧
    decode (.port (.tone 0x04B0006400)) = .ok (.toneRwT3 0x00) ∧
    decode (.port (.tone 0x0190012C02)) = .ok (.toneResT1 0x02) ∧
    decode (.port (.tone 0x012C012C80)) = .ok (.toneResT2 0x80) ∧
    decode (.port (.tone 0x0320006508)) = .error .unknownTone ∧
    decode (.port (.tone 0)) = .error .unknownTone := by decide

/-- 30_encoding.md R101; the reserved screens are rejected by name. -/
theorem test_decode_disp :
    decode (.port (.disp 0x10280)) = .ok (.dispPrompt 640) ∧
    decode (.port (.disp 0x20000)) = .ok (.dispLegend 0) ∧
    decode (.port (.disp 0x309C4)) = .ok (.dispVerdictLow 2500) ∧
    decode (.port (.disp 0x40BB8)) = .ok (.dispVerdictMed 3000) ∧
    decode (.port (.disp 0x51B58)) = .ok (.dispVerdictHigh 7000) ∧
    decode (.port (.disp 0x00001)) = .error .reservedScreen ∧
    decode (.port (.disp 0x60000)) = .error .reservedScreen ∧
    decode (.port (.disp 0xFFFFF)) = .error .reservedScreen := by decide

/-- 30_encoding.md R102: r in bits 20:14, g in 13:7, b in 6:0. -/
theorem test_decode_sled :
    decode (.port (.sled 0b0000001_0000010_0000011)) = .ok (.sled 1 2 3) ∧
    decode (.port (.sled 0b1100100_1100100_1100100)) = .ok (.sled 100 100 100) ∧
    decode (.port (.sled 0b1100101_0000000_0000000)) = .error .sledPercent := by decide

/-- 30_encoding.md R105, R107. -/
theorem test_decode_steps_boot_idle :
    decode (.step 0b000000) = .ok .stepBootInit ∧
    decode (.step 0b000001) = .ok .stepBootChk ∧
    decode (.step 0b000010) = .ok .stepIdleDraw ∧
    decode (.step 0b000011) = .ok .stepIdleWait ∧
    decode (.step 0b000100) = .ok .stepIdleExit := by decide

/-- 30_encoding.md R105, R107. -/
theorem test_decode_steps_countdown :
    decode (.step 0b000101) = .ok .stepCdDisp ∧
    decode (.step 0b000110) = .ok .stepCdCheck ∧
    decode (.step 0b000111) = .ok .stepCdSet ∧
    decode (.step 0b001000) = .ok .stepCdFlush1 ∧
    decode (.step 0b001001) = .ok .stepCdFwait1 ∧
    decode (.step 0b001010) = .ok .stepCdOn ∧
    decode (.step 0b001011) = .ok .stepCdClr ∧
    decode (.step 0b001100) = .ok .stepCdFlush2 ∧
    decode (.step 0b001101) = .ok .stepCdFwait2 ∧
    decode (.step 0b001110) = .ok .stepCdOff := by decide

/-- 30_encoding.md R105, R107. -/
theorem test_decode_steps_window :
    decode (.step 0b001111) = .ok .stepRwDraw ∧
    decode (.step 0b010000) = .ok .stepRwSet ∧
    decode (.step 0b010001) = .ok .stepRwFlush ∧
    decode (.step 0b010010) = .ok .stepRwFwait ∧
    decode (.step 0b010011) = .ok .stepRwPoll ∧
    decode (.step 0b010100) = .ok .stepRwT1 ∧
    decode (.step 0b010101) = .ok .stepRwT2 ∧
    decode (.step 0b010110) = .ok .stepRwT3 ∧
    decode (.step 0b010111) = .ok .stepRwLed ∧
    decode (.step 0b011000) = .ok .stepRwHold ∧
    decode (.step 0b011001) = .ok .stepRwClr := by decide

/-- 30_encoding.md R105, R107. -/
theorem test_decode_steps_resolution :
    decode (.step 0b011010) = .ok .stepResChk ∧
    decode (.step 0b011011) = .ok .stepResT1 ∧
    decode (.step 0b011100) = .ok .stepResT2 ∧
    decode (.step 0b011101) = .ok .stepResLed ∧
    decode (.step 0b011110) = .ok .stepResHold ∧
    decode (.step 0b011111) = .ok .stepResOff ∧
    decode (.step 0b100000) = .ok .stepResClr ∧
    decode (.step 0b100001) = .ok .stepResFlush ∧
    decode (.step 0b100010) = .ok .stepResFwait ∧
    decode (.step 0b100011) = .ok .stepResNext := by decide

/-- 30_encoding.md R105, R107. -/
theorem test_decode_steps_game_over :
    decode (.step 0b100100) = .ok .stepGoDraw ∧
    decode (.step 0b100101) = .ok .stepGoChk ∧
    decode (.step 0b100110) = .ok .stepGoExit := by decide

/-- 30_encoding.md R105, R107. -/
theorem test_decode_steps_unused_low :
    decode (.step 0b100111) = .ok .stepUnused39 ∧
    decode (.step 0b101000) = .ok .stepUnused40 ∧
    decode (.step 0b101001) = .ok .stepUnused41 ∧
    decode (.step 0b101010) = .ok .stepUnused42 ∧
    decode (.step 0b101011) = .ok .stepUnused43 ∧
    decode (.step 0b101100) = .ok .stepUnused44 ∧
    decode (.step 0b101101) = .ok .stepUnused45 ∧
    decode (.step 0b101110) = .ok .stepUnused46 ∧
    decode (.step 0b101111) = .ok .stepUnused47 ∧
    decode (.step 0b110000) = .ok .stepUnused48 ∧
    decode (.step 0b110001) = .ok .stepUnused49 ∧
    decode (.step 0b110010) = .ok .stepUnused50 := by decide

/-- 30_encoding.md R105, R107. -/
theorem test_decode_steps_unused_high :
    decode (.step 0b110011) = .ok .stepUnused51 ∧
    decode (.step 0b110100) = .ok .stepUnused52 ∧
    decode (.step 0b110101) = .ok .stepUnused53 ∧
    decode (.step 0b110110) = .ok .stepUnused54 ∧
    decode (.step 0b110111) = .ok .stepUnused55 ∧
    decode (.step 0b111000) = .ok .stepUnused56 ∧
    decode (.step 0b111001) = .ok .stepUnused57 ∧
    decode (.step 0b111010) = .ok .stepUnused58 ∧
    decode (.step 0b111011) = .ok .stepUnused59 ∧
    decode (.step 0b111100) = .ok .stepUnused60 ∧
    decode (.step 0b111101) = .ok .stepUnused61 ∧
    decode (.step 0b111110) = .ok .stepUnused62 ∧
    decode (.step 0b111111) = .ok .stepFatalHalt := by decide

/-- The words of the opcode table by width (log 15). -/
theorem test_decodeTableWord :
    decodeTableWord 48 0x200000123456 = some (.setPixel 0 0x12 0x34 0x56) ∧
    decodeTableWord 40 0x03200064A5 = some (.toneRwT1 0xA5) ∧ decodeTableWord 2 3 = some (.latchReserved true) ∧
    decodeTableWord 8 63 = some .stepFatalHalt ∧ decodeTableWord 24 0x40BB8 = some (.dispVerdictMed 3000) ∧
    decodeTableWord 24 0x4083 = some (.sled 1 1 3) ∧ decodeTableWord 40 0 = none := by decide

/-- The instruction placed is the one the next step takes. -/
theorem test_withFetchWord :
    ((at_ .idle).withFetchWord 48 0x300000000000).fetch = .ok .clear ∧
    ((at_ .idle).withFetchWord 8 19).fetch = .ok .stepRwPoll ∧
    field (step ((at_ .idle).withFetchWord 48 0x500000000000)) (fun t => t.led.err) = some 0b0100 := by decide

/-! ## The assembler (30_encoding.md R93, R94, R96) -/

theorem test_assemble_set_pixel :
    assemble "SET_PIXEL 0, 0x12, 0x34, 86".toList = some [.word (.lcmd 0x200000123456)] := by decide
theorem test_assemble_range : assemble "SET_PIXEL 0, 256, 0, 0".toList = none := by decide
theorem test_assemble_light_only :
    assemble "LIGHT_ONLY 1, 0, 0, 0xFF".toList =
      some [.word (.lcmd 0x300000000000), .word (.lcmd 0x2000010000FF), .word (.lcmd 0x400000000000), .waitIdle] := by
  decide
theorem test_assemble_directives :
    assemble "WAIT 3".toList = some [.wait 3] ∧ assemble "PRESS A".toList = some [.button .a true] ∧
      assemble "RELEASE B".toList = some [.button .b false] ∧ assemble "JUMP 3".toList = none := by decide

/-! ## LED commands (95_test_vectors.md V1 to V22) -/

theorem test_init_claims :
    field (exec .init (at_ .uninit)) (fun t => (t.led.st, t.led.err, t.led.fb)) =
      some (.idle, 0, [(0, 0), (1, 0), (2, 0), (3, 0)]) := by decide
theorem test_init_no_channel :
    field (exec .init { at_ .uninit with cfg := { cfg with ledChanAvail := false } })
      (fun t => (t.led.st, t.led.err, t.led.fb)) = some (.fatal, 0b1000, []) := by decide
theorem test_nop_keeps_errors :
    field (exec .nop { at_ .idle with led := { (at_ .idle).led with err := 0b0101 } })
      (fun t => (t.led.st, t.led.err)) = some (.idle, 0b0101) := by decide
theorem test_set_pixel_order :
    field (exec (.setPixel 0 0x12 0x34 0x56) (at_ .idle)) (fun t => (t.led.fb.read 0, t.led.fb.read 1)) =
      some (some 0x341256, some 0) := by decide
theorem test_set_pixel_at_n :
    field (exec (.setPixel 4 1 1 1) (at_ .idle)) (fun t => (t.led.err, t.led.fb.read 3)) =
      some (0b0001, some 0) := by decide
theorem test_clear :
    field (exec .clear { at_ .idle with led := { (at_ .idle).led with fb := [(0, 0x341256), (3, 0x00FF80)] } })
      (fun t => t.led.fb) = some [(0, 0), (1, 0), (2, 0), (3, 0)] := by decide
theorem test_clear_before_init :
    field (exec .clear (at_ .uninit)) (fun t => (t.led.err, t.led.fb)) = some (0b0010, []) := by decide
theorem test_flush :
    field (exec .flush (at_ .idle)) (fun t => (t.led.st, t.led.pix, t.led.bit, t.led.cnt)) =
      some (.tx, 0, 23, 0) := by decide
theorem test_flush_before_init :
    field (exec .flush (at_ .uninit)) (fun t => (t.led.st, t.led.err)) = some (.uninit, 0b0010) := by decide
theorem test_illegal_wins :
    field (step (scripted [.word (.lcmd 0x2100FFFF0000)] (at_ .uninit))) (fun t => t.led.err) = some 0b0100 := by
  decide
theorem test_illegal_held :
    field (exec (.lcmdReserved 0x500000000000) (at_ .tx)) (fun t => (t.led.err, t.led.cnt)) = some (0, 1) := by
  decide

/-! ## The serializer (R138 to R142) -/

/-- The end of a symbol, of a pixel, of the frame and of the hold. -/
theorem test_serializer_edges :
    (Led.cycle cfg none { (at_ .tx).led with cnt := 2 }).bit = 22 ∧
    (Led.cycle cfg none { (at_ .tx).led with cnt := 2, bit := 0 }).pix = 1 ∧
    (Led.cycle cfg none { (at_ .tx).led with cnt := 2, bit := 0 }).bit = 23 ∧
    (Led.cycle cfg none { (at_ .tx).led with cnt := 2, bit := 0, pix := 3 }).st = .latch ∧
    (Led.cycle cfg none (at_ .latch).led).st = .idle := by decide

/-- S3: `100` for a 0, `110` for a 1. -/
theorem test_symbol_shape :
    let sym (v : Pixel) (k : BitVec 32) : Bool :=
      State.ledDout { at_ .tx with led := { (at_ .tx).led with fb := [(0, v)], cnt := k } }
    [sym 0 0, sym 0 1, sym 0 2] = [true, false, false] ∧
      [sym 0x800000 0, sym 0x800000 1, sym 0x800000 2] = [true, true, false] := by decide

/-- A read past the buffer is a fault by name (log 8). -/
theorem test_serializer_range :
    exec .nop { at_ .tx with led := { (at_ .tx).led with pix := 4 } } = .fault .serializerRange := rfl

/-! ## The input latch (L1 to L10) -/

/-- L2, L5: a rise sets FLAG and HELD, and CHORD with the other line held. -/
theorem test_latch_rise :
    field (exec .latchNone (warmed (fun l => { l with syA := [true, true], heldB := true, flagB := true }) (at_ .idle)))
      (fun t => (t.latch.flagA, t.latch.heldA, t.latch.chord)) = some (true, true, true) := by decide
/-- L2, L7: a release clears HELD alone. -/
theorem test_latch_fall :
    field (exec .latchNone (warmed (fun l => { l with prevA := true, flagA := true, heldA := true, chord := true })
      (at_ .idle))) (fun t => (t.latch.flagA, t.latch.heldA, t.latch.chord)) = some (true, false, true) := by decide
/-- L3. -/
theorem test_latch_clear_all :
    field (exec .latchClearAll (warmed (fun l => { l with flagA := true, flagB := true, heldB := true, chord := true })
      (at_ .idle))) (fun t => (t.latch.flagA, t.latch.flagB, t.latch.heldB, t.latch.chord)) =
      some (false, false, false, false) := by decide
/-- L4: set wins over clear. -/
theorem test_latch_set_wins :
    field (exec .latchClearAll (warmed (fun l => { l with syA := [true, true], flagB := true, chord := true })
      (at_ .idle))) (fun t => (t.latch.flagA, t.latch.heldA, t.latch.flagB, t.latch.chord)) =
      some (true, true, false, false) := by decide
/-- L10. -/
theorem test_latch_reserved :
    field (exec (.latchReserved true) (warmed (fun l => { l with flagA := true }) (at_ .idle)))
      (fun t => t.latch.flagA) = some true := by decide
/-- L1: no edge is seen before the end of the warm-up (R168). -/
theorem test_latch_warm_up :
    field (exec .latchNone { at_ .idle with latch := { (at_ .idle).latch with warm := 2, syA := [true, true] } })
      (fun t => (t.latch.flagA, t.latch.warm, t.latch.prevA)) = some (false, 3, true) := by decide
/-- L9, R174: what the latch reports in each mode, as the word of 30_encoding.md R98. -/
theorem test_latch_modes :
    let s := warmed (fun l => { l with flagA := true, heldB := true, flagB := true }) (at_ .idle)
    s.latchRead = 0b011 ∧ ({ s with cfg := { cfg with latchMode := .level } } : State).latchRead = 0b010 := by decide

/-! ## The timer (T2 to T6) -/

theorem test_timer_prescaler :
    Timer.tick { cfg with clkPerUs := 4 } { presc := 3, us := 0xFFFFFFFF } = { presc := 0, us := 0 } ∧
      Timer.tick { cfg with clkPerUs := 4 } { presc := 2, us := 7 } = { presc := 3, us := 7 } := by decide
theorem test_elapsed :
    elapsed 0x10 0xFFFFFFF0 = 32 ∧ elapsed 7 7 = 0 ∧ elapsed 0 1 = 4294967295 ∧
      elapsed 601855 0xFFFE809F = 700000 := by decide

/-! ## Requests (42_collaborators.md R192, R197, R199) -/

theorem test_tone_transferred :
    field (exec (.toneRwT3 0xA5) (at_ .idle)) (fun t => t.collab.toneLast) = some (some 0x04B00064A5) := by decide
theorem test_tone_waits :
    field (exec (.toneResT1 2) (given { calm with toneReady := false } (at_ .idle)))
      (fun t => (t.collab.toneLast, t.collab.toneDone)) = some (none, 0) := by decide
theorem test_tone_words :
    [Instr.toneRwT1 1, .toneRwT2 1, .toneResT1 1, .toneResT2 1].map
      (fun i => field (exec i (at_ .idle)) (fun t => t.collab.toneLast)) =
    [some (some 0x0320006401), some (some 0x03E8006401), some (some 0x0190012C01),
      some (some 0x012C012C01)] := by decide
theorem test_disp_words :
    [Instr.dispPrompt 5, .dispLegend 5, .dispVerdictLow 5, .dispVerdictMed 5, .dispVerdictHigh 5].map
      (fun i => field (exec i (at_ .idle)) (fun t => (t.collab.dispLast, t.collab.dispDone))) =
    [some (some 0x10005, 1), some (some 0x20005, 1), some (some 0x30005, 1), some (some 0x40005, 1),
      some (some 0x50005, 1)] := by decide
theorem test_sled :
    field (exec (.sled 1 2 3) (at_ .idle)) (fun t => (t.sledOut, t.seq.upc)) =
      some (0b0000001_0000010_0000011, 0) := by decide
theorem test_sled_refused : exec (.sled 0 101 0) (at_ .idle) = .refused (.rejected .sledPercent) := rfl

/-! ## Steps (95_test_vectors.md Q1 to Q21, V-PTS, V-VERD) -/

theorem test_boot_init :
    field (step (at_ .uninit)) (fun t => (t.seq.upc, t.led.st)) = some (1, .idle) := by decide
/-- Q1, Q2. -/
theorem test_boot_chk :
    field (exec .stepBootChk (at_ .fatal)) (fun t => t.seq.upc) = some 63 ∧
      field (exec .stepBootChk (at_ .idle)) (fun t => t.seq.upc) = some 2 := by decide
theorem test_idle_draw :
    field (exec .stepIdleDraw (atStep 2 77)) (fun t => (t.seq.upc, t.seq.t0, t.collab.dispLast)) =
      some (3, 77, some 0x10000) := by decide
/-- Q3, Q4, Q5. -/
theorem test_idle_wait :
    field (exec .stepIdleWait (warmed (fun l => { l with chord := true }) (atStep 3 100000))) (fun t => t.seq.upc) = some 4 ∧
    field (exec .stepIdleWait (atStep 3 100000)) (fun t => t.seq.upc) = some 2 ∧
    field (exec .stepIdleWait (warmed (fun l => { l with flagA := true, flagB := true }) (atStep 3 99999)))
      (fun t => t.seq.upc) = some 3 := by decide
theorem test_idle_exit :
    field (exec .stepIdleExit (warmed (fun l => { l with chord := true })
      { atStep 4 with seq := { (atStep 4).seq with score := 7, snapshot := 6, round := 5 } }))
      (fun t => (t.seq.score, t.seq.snapshot, t.seq.round, t.seq.session, t.latch.chord)) =
      some (0, 0, 0, true, false) := by decide
theorem test_cd_disp :
    field (exec .stepCdDisp (atStep 5 9)) (fun t => (t.seq.tCd, t.seq.upc, t.collab.dispLast)) =
      some (9, 6, some 0x20000) := by decide
/-- Q6, Q7. -/
theorem test_cd_check :
    field (exec .stepCdCheck (atStep 6 2999999)) (fun t => t.seq.upc) = some 7 ∧
      field (exec .stepCdCheck (atStep 6 3000000)) (fun t => t.seq.upc) = some 15 := by decide
/-- The slot RED at its position 3, R in bits 15:8. -/
theorem test_cd_set :
    field (exec .stepCdSet (atStep 7)) (fun t => (t.led.fb.read 3, t.seq.upc)) = some (some 0x002000, 8) := by decide
theorem test_cd_flush1 :
    field (exec .stepCdFlush1 (atStep 8)) (fun t => (t.led.st, t.seq.upc)) = some (.tx, 9) := by decide
theorem test_cd_fwait1 :
    field (exec .stepCdFwait1 (atStep 9 5)) (fun t => (t.seq.t0, t.seq.upc)) = some (5, 10) ∧
      field (exec .stepCdFwait1 { at_ .tx with seq := (atStep 9).seq }) (fun t => t.seq.upc) = some 9 := by decide
theorem test_cd_on :
    field (exec .stepCdOn (atStep 10 149999)) (fun t => t.seq.upc) = some 10 ∧
      field (exec .stepCdOn (atStep 10 150000)) (fun t => t.seq.upc) = some 11 := by decide
theorem test_cd_clr :
    field (exec .stepCdClr { atStep 11 with led := { (atStep 11).led with fb := [(3, 0x002000)] } })
      (fun t => (t.led.fb.read 3, t.seq.upc)) = some (some 0, 12) := by decide
theorem test_cd_flush2 :
    field (exec .stepCdFlush2 (atStep 12)) (fun t => (t.led.st, t.seq.upc)) = some (.tx, 13) := by decide
theorem test_cd_fwait2 :
    field (exec .stepCdFwait2 (atStep 13 5)) (fun t => (t.seq.t0, t.seq.upc)) = some (5, 14) := by decide
/-- Q8. -/
theorem test_cd_off :
    [Colour.red, .blue, .green].map (fun c =>
      field (exec .stepCdOff { atStep 14 150000 with seq := { (atStep 14).seq with slot := c } })
        (fun t => (t.seq.slot, t.seq.upc))) =
    [some (.blue, 6), some (.green, 6), some (.red, 6)] := by decide
/-- Q9. -/
theorem test_rw_draw_waits :
    field (exec .stepRwDraw (given { calm with rnd := 3 } (atStep 15))) (fun t => t.seq.upc) = some 15 := by decide
/-- Q10. -/
theorem test_rw_draw :
    field (exec .stepRwDraw (given { calm with rnd := 1 }
      { atStep 15 with seq := { (atStep 15).seq with score := 640 } }))
      (fun t => (t.seq.target, t.seq.snapshot, t.seq.upc)) = some (.green, 640, 16) := by decide
theorem test_rw_set :
    field (exec .stepRwSet { atStep 16 with seq := { (atStep 16).seq with target := .green } })
      (fun t => (t.led.fb.read 1, t.seq.upc)) = some (some 0x200000, 17) := by decide
theorem test_rw_flush :
    field (exec .stepRwFlush (atStep 17)) (fun t => (t.led.st, t.seq.upc)) = some (.tx, 18) := by decide
theorem test_rw_fwait :
    field (exec .stepRwFwait (atStep 18 5)) (fun t => (t.seq.tE, t.seq.t0, t.seq.upc)) = some (5, 0, 19) := by decide
/-- Q11. -/
theorem test_rw_poll_no_hit :
    field (exec .stepRwPoll (warmed (fun l => { l with flagA := true, flagB := true })
      { atStep 19 10000 with seq := { (atStep 19).seq with target := .blue } })) (fun t => t.seq.upc) = some 19 := by
  decide
/-- Q12, Q13: a hit in the last microsecond, and the deadline first. -/
theorem test_rw_poll_deadline :
    let s (us : Micros) := warmed (fun l => { l with flagA := true })
      { atStep 19 us with seq := { (atStep 19).seq with score := 100 } }
    field (exec .stepRwPoll (s 699999)) (fun t => (t.seq.score, t.seq.upc)) = some (101, 20) ∧
      field (exec .stepRwPoll (s 700000)) (fun t => (t.seq.score, t.seq.upc)) = some (100, 26) := by decide
/-- Table V-PTS. -/
theorem test_points :
    [0, 1, 999, 1000, 1001, 199999, 200002, 201000, 499999, 500000, 699000, 699999].map pointsAt =
      [700, 700, 700, 699, 699, 501, 500, 499, 201, 200, 1, 1] := by decide
theorem test_success_tones :
    [(Instr.stepRwT1, 20#6), (.stepRwT2, 21), (.stepRwT3, 22)].map
      (fun x => field (exec x.1 (atStep x.2)) (fun t => (t.collab.toneLast, t.seq.upc))) =
    [some (some 0x0320006408, 21), some (some 0x03E8006408, 22), some (some 0x04B0006408, 23)] := by decide
theorem test_rw_led :
    field (exec .stepRwLed (atStep 23 4)) (fun t => (t.seq.sledR, t.seq.sledG, t.seq.sledB, t.seq.t0, t.seq.upc)) =
      some (0, 50, 0, 4, 24) := by decide
theorem test_rw_hold :
    field (exec .stepRwHold (atStep 24 499999)) (fun t => t.seq.upc) = some 24 ∧
      field (exec .stepRwHold (atStep 24 500000)) (fun t => t.seq.upc) = some 25 := by decide
theorem test_rw_clr :
    field (exec .stepRwClr (warmed (fun l => { l with flagA := true, flagB := true }) (atStep 25)))
      (fun t => (t.latch.flagA, t.latch.flagB, t.seq.upc)) = some (false, false, 26) := by decide
/-- Q14, Q15. -/
theorem test_res_chk :
    field (exec .stepResChk (atStep 26)) (fun t => t.seq.upc) = some 27 ∧
      field (exec .stepResChk { atStep 26 with seq := { (atStep 26).seq with score := 1 } }) (fun t => t.seq.upc) =
        some 31 := by decide
theorem test_failure_tones :
    [(Instr.stepResT1, 27#6), (.stepResT2, 28)].map
      (fun x => field (exec x.1 (atStep x.2)) (fun t => (t.collab.toneLast, t.seq.upc))) =
    [some (some 0x0190012C02, 28), some (some 0x012C012C02, 29)] := by decide
theorem test_res_led :
    field (exec .stepResLed (atStep 29 4)) (fun t => (t.seq.sledR, t.seq.sledG, t.seq.sledB, t.seq.t0, t.seq.upc)) =
      some (60, 0, 0, 4, 30) := by decide
theorem test_res_hold :
    field (exec .stepResHold (atStep 30 500000)) (fun t => t.seq.upc) = some 31 := by decide
theorem test_res_off :
    field (exec .stepResOff { atStep 31 with seq := { (atStep 31).seq with sledR := 60, sledG := 50 } })
      (fun t => (t.sledOut, t.seq.upc)) = some (0, 32) := by decide
theorem test_res_clr :
    field (exec .stepResClr { atStep 32 with led := { (atStep 32).led with fb := [(1, 0x200000)] } })
      (fun t => (t.led.fb.read 1, t.seq.upc)) = some (some 0, 33) := by decide
theorem test_res_flush :
    field (exec .stepResFlush (atStep 33)) (fun t => (t.led.st, t.seq.upc)) = some (.tx, 34) := by decide
theorem test_res_fwait :
    field (exec .stepResFwait (atStep 34)) (fun t => t.seq.upc) = some 35 := by decide
/-- Q16, Q17. -/
theorem test_res_next :
    [8#4, 9].map (fun r => field (exec .stepResNext { atStep 35 with seq := { (atStep 35).seq with round := r } })
      (fun t => (t.seq.round, t.seq.upc))) = [some (9, 5), some (10, 36)] := by decide
/-- Table V-VERD. -/
theorem test_verdict :
    [0#16, 2500, 2999, 3000, 4999, 5000, 7000].map verdictScreen = [3, 3, 3, 4, 4, 5, 5] := by decide
theorem test_go_draw :
    field (exec .stepGoDraw { atStep 36 with seq := { (atStep 36).seq with score := 5000 } })
      (fun t => (t.collab.dispLast, t.seq.upc)) = some (some 0x51388, 37) := by decide
/-- Q18, Q19. -/
theorem test_go_chk :
    field (exec .stepGoChk (atStep 37)) (fun t => t.seq.upc) = some 36 ∧
      field (exec .stepGoChk (warmed (fun l => { l with flagB := true }) (atStep 37))) (fun t => t.seq.upc) = some 38 := by
  decide
/-- Q20. -/
theorem test_go_exit :
    field (exec .stepGoExit (warmed (fun l => { l with flagB := true })
      { atStep 38 with seq := { (atStep 38).seq with score := 7, round := 10, session := true } }))
      (fun t => (t.seq.score, t.seq.round, t.seq.session, t.latch.flagB, t.seq.upc)) =
      some (0, 0, false, false, 2) := by decide
theorem test_fatal_halt :
    field (step { at_ .fatal with seq := { (at_ .fatal).seq with upc := 63 } }) (fun t => (t.seq.upc, t.timer.us)) =
      some (63, 1) := by decide
/-- Q21. -/
theorem test_unused : field (step (atStep 40)) (fun t => (t.seq, t.led)) = some ((atStep 40).seq, (atStep 40).led) := by
  decide

/-! ## The client and reset -/

/-- A word stays until it is accepted; a WAIT counts down; PRESS acts at the same edge (R94, R95). -/
theorem test_client :
    field (step (scripted [.word (.lcmd 0x300000000000), .wait 2] (at_ .idle))) (fun t => t.client.script) = some [.wait 2] ∧
    field (step (scripted [.word (.lcmd 0x300000000000)] (at_ .tx))) (fun t => t.client.script) =
      some [.word (.lcmd 0x300000000000)] ∧
    field (step (scripted [.wait 2] (at_ .idle))) (fun t => t.client.script) = some [.wait 1] ∧
    field (step (scripted [.button .a true] (at_ .idle))) (fun t => (t.latch.syA, t.client.driveA)) =
      some ([true, false], some true) := by decide
theorem test_client_rejected :
    step (scripted [.word (.disp 0)] (at_ .idle)) = .refused (.rejected .reservedScreen) := rfl
/-- 70_reset_and_hazards.md R331, R332: a reset in a frame. -/
theorem test_reset_in_frame :
    field (step (given { calm with rst := true } { at_ .tx with seq := (atStep 18 9).seq }))
      (fun t => (t.led, t.seq.upc, t.timer.us)) = some (Led.atReset, 0, 0) := by decide
/-- 10_state.md R56: the fields of STATUS0 after reset with the driver ready. -/
theorem test_status0 : (atStep 19).status0 = 0b0_00_0_0_0_0_0_0_0_0_1_0000_00_0_0000_011_010011 := by decide

/-! ## Witnesses: for every obligation with hypotheses, a state and operands that meet them together -/

/-- The target RED is lit and the reaction window is open, in round 0. -/
def play : State :=
  let s := atStep 19
  { s with
    led := { s.led with fb := [(0, 0), (1, 0), (2, 0), (3, 0x002000)] }
    seq := { s.seq with session := true } }

/-- A machine with `LATCH_MODE` = LEVEL. -/
def levelled : State := { at_ .idle with cfg := { cfg with latchMode := .level } }

theorem cfg_valid : cfg.Valid := by decide

theorem play_inv : play.Inv where
  valid := cfg_valid
  led :=
    { wf := by decide
      bounded := fun i h => by
        rw [Memory.read_isSome_iff] at h
        have : i ∈ [0, 1, 2, 3] := h
        have : i < 4 := by simp at this; omega
        exact this
      noValue := by decide
      allValues := fun _ i h => by
        have h : i < 4 := h
        interval_cases i <;> rfl
      inSymbol := by decide
      inHold := by decide
      fatalBit := by decide }
  latch := by constructor <;> decide
  presc := by decide
  seq := by constructor <;> decide

theorem play_assembledInv : play.AssembledInv where
  inv := play_inv
  noScript := rfl
  ledState := by decide
  errors := by decide
  lit := fun _ _ i h => by
    have h : i < 4 := h
    interval_cases i <;> rfl

theorem witness_DecodeOfEncode :
    (Instr.sled 100 0 100).wellFormed = true ∧ (Instr.lcmdReserved 0xFFFFFFFFFFFF).wellFormed = true := by decide
theorem witness_EncodeOfDecode : decode (.port (.tone 0x04B00064FF)) = .ok (.toneRwT3 0xFF) := by decide
theorem witness_StepRunsFetchedInstruction :
    (at_ .idle).pins.rst = false ∧ (at_ .idle).fetch = .ok .stepBootInit ∧
    (∃ t, exec .stepBootInit (at_ .idle) = .next t) ∧
    (∃ s : State, s.pins.rst = false ∧ s.fetch = .ok .nop ∧ exec .nop s = .fault .serializerRange) ∧
    (∃ s : State, s.pins.rst = false ∧ s.fetch = .error .sledPercent) ∧
    (at_ .idle).clientWord = none ∧
    (scripted [.word (.latch 1)] (at_ .idle)).clientWord = some (.latch 1) :=
  ⟨rfl, rfl, ⟨_, rfl⟩,
    ⟨scripted [.word (.lcmd 0)] { at_ .tx with led := { (at_ .tx).led with pix := 4 } }, rfl, by decide, rfl⟩,
    ⟨scripted [.word (.sled 0x1FFFFF)] (at_ .idle), rfl, by decide⟩, rfl, rfl⟩
theorem witness_ResetRestoresResetValues : (given { calm with rst := true } (at_ .tx)).pins.rst = true := rfl
theorem witness_NopChangesNoRegister :
    (at_ .uninit).led.st = .uninit ∧ (at_ .idle).led.st = .idle ∧
    ∀ st ∈ [LedState.tx, .latch, .fatal], (at_ st).led.st = st ∧ (at_ st).led.readsInRange cfg = true := by decide
theorem witness_InitClaimsChannelOrFails :
    (at_ .uninit).led.st = .uninit ∧ (at_ .uninit).cfg.ledChanAvail = true ∧
    ({ at_ .uninit with cfg := { cfg with ledChanAvail := false } } : State).cfg.ledChanAvail = false := by decide
theorem witness_InitAgainClearsBuffer : (at_ .idle).led.st = .idle := by decide
/-- The last index, N - 1. -/
theorem witness_SetPixelWritesOneElement :
    (at_ .idle).led.st = .idle ∧ (3#16).toNat < (at_ .idle).cfg.pixels := by decide
/-- The first index out of range, N. -/
theorem witness_SetPixelOutOfRangeRejected :
    (at_ .idle).led.st = .idle ∧ (at_ .idle).cfg.pixels ≤ (4#16).toNat := by decide
theorem witness_CommandsBeforeInitRefused :
    (at_ .uninit).led.st = .uninit ∧
      ((∃ idx r g b, Instr.flush = .setPixel idx r g b) ∨ Instr.flush = .clear ∨ Instr.flush = .flush) :=
  ⟨rfl, Or.inr (Or.inr rfl)⟩
theorem witness_IllegalWordSetsIllegalBit :
    (at_ .uninit).led.st = .uninit ∧ (at_ .idle).led.st = .idle ∧ lcmdWf 0x500000000000 = false := by decide
theorem witness_ClearZeroesBuffer : (at_ .idle).led.st = .idle := by decide
theorem witness_FlushStartsFrame : (at_ .idle).led.st = .idle := by decide
theorem witness_CommandsHeldWhileBusy :
    ∀ st ∈ [LedState.tx, .latch, .fatal], (at_ st).led.st = st ∧ (at_ st).led.readsInRange cfg = true := by decide
/-- A state with a sticky bit and the step it takes. -/
theorem witness_ErrorBitsSticky :
    ∃ t, (at_ .idle).pins.rst = false ∧
      step { at_ .idle with led := { (at_ .idle).led with err := 0b0101 } } = .next t ∧ (0b0101#4).getLsbD 2 = true :=
  ⟨_, rfl, rfl, rfl⟩
theorem witness_ClearEqualsSetPixelEverywhere :
    play.led.st = .idle ∧ cfg.pixels ≤ 65535 ∧ play.led.fb.wf = true ∧
      ∀ i, (play.led.fb.read i).isSome = true → i < cfg.pixels :=
  ⟨rfl, by decide, by decide, play_inv.led.bounded⟩

/-- What is left after a FLUSH whose client has nothing more to say: no script, FATAL_HALT, inputs at rest. -/
def Halted (n : Nat) (s : State) : Prop :=
  s.client.script = [] ∧ s.seq.upc = 63 ∧ s.env = List.replicate n calm ∧ s.led.readsInRange s.cfg = true

theorem halted_step {n : Nat} {s : State} (h : Halted (n + 1) s) :
    ∃ t, step s = .next t ∧ Halted n t ∧ s.pins.rst = false := by
  obtain ⟨h1, h2, h3, h4⟩ := h
  have hp : s.pins = calm := by simp [State.pins, h3, List.replicate_succ]
  have hf : s.fetch = .ok .stepFatalHalt := by rw [State.fetch_of_no_script h1, h2]; rfl
  have he : exec .stepFatalHalt s = .next (s.clocked {} s.seq) := clockEdge_eq h4
  refine ⟨s.advance (s.clocked {} s.seq), ?_, ⟨State.nextClient_script_of_no_script h1, h2, ?_, ?_⟩, ?_⟩
  · simp [step, hp, calm, hf, he, State.carry]
  · simp [h3, List.replicate_succ]
  · exact Led.readsInRange_cycle_none h4
  · rw [hp]; rfl

theorem halted_after {n k : Nat} {s : State} (h : Halted n s) (hk : k ≤ n) :
    ∃ t, s.after k = .next t ∧ Halted (n - k) t ∧ s.noResetFor k := by
  induction k with
  | zero => exact ⟨s, rfl, h, fun j t hj => by omega⟩
  | succ k ih =>
    obtain ⟨u, hu, hh, hn⟩ := ih (by omega)
    obtain ⟨t, ht, hh', hr⟩ := halted_step (n := n - (k + 1)) (by rwa [show n - (k + 1) + 1 = n - k by omega])
    refine ⟨t, State.after_succ.mpr ⟨u, hu, ht⟩, hh', fun j v hj hv => ?_⟩
    by_cases hjk : j < k
    · exact hn j v hjk hv
    · obtain rfl : j = k := by omega
      rw [State.inCycle_of_after hu] at hv
      injection hv with hv
      rw [← hv]; exact hr

/-- A client presents FLUSH to the IDLE driver; inputs at rest for 300 cycles. -/
def flushing : State :=
  { scripted [.word (.lcmd 0x400000000000)] (atStep 63) with env := List.replicate 300 calm }

/-- The frame of `flushing` lasts 24·4·3 + 1 = 289 cycles: every clause is met by some `k`, the first and the
last of its range among them. -/
theorem witness_FlushTransmitsFrame :
    ∀ k ∈ [0, 287, 288, 289], ∃ t,
      (1 ≤ flushing.cfg.pixels ∧ flushing.cfg.pixels ≤ 65535) ∧
      (3 ≤ flushing.cfg.symCycles ∧ flushing.cfg.symCycles ≤ 2 ^ 32) ∧
      (1 ≤ flushing.cfg.resetCycles ∧ flushing.cfg.resetCycles ≤ 2 ^ 32) ∧
      flushing.led.st = .idle ∧ flushing.ledPort = some 0x400000000000 ∧ flushing.noResetFor (k + 1) ∧
      flushing.after (k + 1) = .next t := by
  intro k hk
  have hk : k < 299 := by simp at hk; omega
  have h1 : step flushing = .next (flushing.advance (flushing.clocked { led := some .flush } flushing.seq)) := rfl
  have hh : Halted 299 (flushing.advance (flushing.clocked { led := some .flush } flushing.seq)) :=
    ⟨rfl, rfl, rfl, by decide⟩
  obtain ⟨t, ht, _, hn⟩ := halted_after (k := k) hh (by omega)
  refine ⟨t, by decide, by decide, by decide, rfl, rfl, fun j v hj hv => ?_, by rw [State.after, h1]; exact ht⟩
  cases j with
  | zero => injection hv with hv; rw [← hv]; rfl
  | succ j =>
    refine hn j v (by omega) ?_
    simpa [State.inCycle, State.after, h1] using hv

theorem witness_LineLevelOfSymbol :
    (at_ .idle).led.st ≠ .tx ∧ (at_ .tx).led.st = .tx ∧ (at_ .tx).led.fb.read 0 = some 0 := by decide
theorem witness_FatalDriverHolds :
    (at_ .fatal).led.st = .fatal ∧ (∃ t, step (at_ .fatal) = .next t) ∧ (at_ .fatal).pins.rst = false ∧
    (∃ t, step (given { calm with rst := true } (at_ .fatal)) = .next t) ∧
    (given { calm with rst := true } (at_ .fatal)).pins.rst = true :=
  ⟨rfl, ⟨_, rfl⟩, rfl, ⟨_, rfl⟩, rfl⟩
theorem witness_NoWriteDuringFrame :
    ((at_ .tx).led.st = .tx ∧ ∃ t, step (at_ .tx) = .next t) ∧
      ((at_ .latch).led.st = .latch ∧ ∃ t, step (at_ .latch) = .next t) ∧ (at_ .tx).pins.rst = false :=
  ⟨⟨rfl, _, rfl⟩, ⟨rfl, _, rfl⟩, rfl⟩
theorem witness_LatchReadClearsNothing :
    (at_ .tx).led.readsInRange cfg = true ∧
      (Instr.latchReserved true = .latchNone ∨ ∃ low, Instr.latchReserved true = .latchReserved low) ∧
    (at_ .tx).cfg.latchMode = .sticky ∧ levelled.cfg.latchMode = .level :=
  ⟨by decide, Or.inr ⟨_, rfl⟩, rfl, rfl⟩
theorem witness_ClearAllKeepsOnlyNewEdges : (at_ .tx).led.readsInRange cfg = true := by decide
theorem witness_FlagInvariantsMaintained :
    ((at_ .idle).latch.heldA = true → (at_ .idle).latch.flagA = true) ∧
    ((at_ .idle).latch.heldB = true → (at_ .idle).latch.flagB = true) ∧
    ((at_ .idle).latch.chord = true → (at_ .idle).latch.flagA = true ∧ (at_ .idle).latch.flagB = true) ∧
    ∃ t, step (at_ .idle) = .next t :=
  ⟨by decide, by decide, by decide, _, rfl⟩
theorem witness_PressSeenAfterSyncStages :
    let l := { Latch.atReset cfg with warm := 3 }
    2 ≤ cfg.syncStages ∧ l.warm = cfg.syncStages + 1 ∧
      [(0b01#2, false, true)].length = cfg.syncStages - 1 ∧
      l.syA = List.replicate cfg.syncStages false ∧ l.prevA = false ∧
      l.syB = List.replicate cfg.syncStages false ∧ l.prevB = false := by decide
theorem witness_HeldThroughResetUnseen :
    2 ≤ cfg.syncStages ∧
    (∀ x ∈ [(0#2, true, false), (1#2, true, true), (0#2, true, false), (0#2, true, true)], x.2.1 = true) ∧
    (∀ x ∈ [(0#2, true, true), (1#2, false, true), (0#2, true, true), (0#2, true, true)], x.2.2 = true) := by decide
theorem witness_FlagsClearedOnlyByClearAll :
    (let s := warmed (fun l => { l with flagA := true, flagB := true, chord := true }) (atStep 25)
     s.pins.rst = false ∧ s.clientWord = none ∧ s.latch.flagA = true ∧ s.latch.flagB = true ∧ s.latch.chord = true ∧
      ∃ t, step s = .next t ∧ t.latch.flagA = false ∧ t.latch.flagB = false ∧ t.latch.chord = false) ∧
    (atStep 15).clientWord = none :=
  ⟨⟨rfl, rfl, rfl, rfl, rfl, _, rfl, by decide, by decide, by decide⟩, rfl⟩
theorem witness_TimerCountsMicroseconds :
    let slow := { atStep 63 with cfg := { cfg with clkPerUs := 4 }, env := List.replicate 9 calm }
    (slow.pins.rst = false ∧ slow.timer.presc ≠ slow.cfg.clkPerUs - 1 ∧ ∃ t, step slow = .next t) ∧
    ((at_ .idle).timer.presc = (at_ .idle).cfg.clkPerUs - 1 ∧ ∃ t, step (at_ .idle) = .next t) ∧
    1 ≤ slow.cfg.clkPerUs ∧ slow.timer = { presc := 0, us := 0 } ∧
    ∃ t, slow.noResetFor 9 ∧ slow.after 9 = .next t := by
  refine ⟨⟨rfl, by decide, _, rfl⟩, ⟨rfl, _, rfl⟩, by decide, rfl, ?_⟩
  obtain ⟨t, ht, _, hn⟩ := halted_after (n := 9) (k := 9)
    (s := { atStep 63 with cfg := { cfg with clkPerUs := 4 }, env := List.replicate 9 calm })
    ⟨rfl, rfl, rfl, by decide⟩ (by omega)
  exact ⟨t, hn, ht⟩
theorem witness_TimerHasNoControl :
    (at_ .idle).timer = (at_ .tx).timer ∧ (at_ .idle).cfg = (at_ .tx).cfg ∧
    (at_ .idle).pins.rst = (at_ .tx).pins.rst ∧ (∃ t, step (at_ .idle) = .next t) ∧ (∃ t, step (at_ .tx) = .next t) ∧
    (∃ t, (given { calm with rst := true } (at_ .tx)).pins.rst = true ∧
      step (given { calm with rst := true } (at_ .tx)) = .next t) :=
  ⟨rfl, rfl, rfl, ⟨_, rfl⟩, ⟨_, rfl⟩, _, rfl, rfl⟩
theorem witness_ToneRequestTransferred :
    (at_ .idle).led.readsInRange cfg = true ∧ (at_ .idle).pins.toneReady = true ∧
      (given { calm with toneReady := false } (at_ .idle)).pins.toneReady = false := by decide
theorem witness_DispRequestTransferred :
    (at_ .idle).led.readsInRange cfg = true ∧ (at_ .idle).pins.dispReady = true ∧
      (given { calm with dispReady := false } (at_ .idle)).pins.dispReady = false := by decide
/-- The two clauses meet at 100 and 101. -/
theorem witness_SledWordSetsPercentages :
    (at_ .idle).led.readsInRange cfg = true ∧ (100#7).toNat ≤ 100 ∧ 100 < (101#7).toNat := by decide
theorem witness_BootInitPresentsInit :
    (at_ .uninit).led.readsInRange cfg = true ∧ (at_ .uninit).led.ready = true ∧
      (at_ .latch).led.readsInRange cfg = true ∧ (at_ .latch).led.ready = false := by decide
theorem witness_BranchStepsChooseSuccessor : (at_ .idle).led.readsInRange cfg = true := by decide
/-- Each of the three steps, a step beside each of them, and a request that waits. -/
theorem witness_DisplayStepsCompleteAtTransfer :
    ((at_ .idle).led.readsInRange cfg = true ∧ (at_ .idle).pins.dispReady = true ∧
      (given { calm with dispReady := false } (at_ .idle)).pins.dispReady = false) ∧
    (∀ u ∈ [2#6, 5#6, 36#6], (atStep u).clientWord = none ∧ (atStep u).seq.upc = u) ∧
    (∀ u ∈ [1#6, 3#6, 4#6, 6#6, 35#6, 37#6],
      (atStep u).clientWord = none ∧ (atStep u).seq.upc ∉ [2#6, 5#6, 36#6] ∧ (atStep u).dispValid = false) ∧
    (let s := given { calm with dispReady := false } (atStep 36)
     s.clientWord = none ∧ s.pins.rst = false ∧ s.dispValid = true ∧ s.pins.dispReady = false ∧
      ∃ t, t.clientWord = none ∧ step s = .next t) :=
  ⟨by decide, by decide, by decide, rfl, rfl, by decide, rfl, _, rfl, rfl⟩
theorem witness_IdleWaitChordWins : (atStep 3).led.readsInRange cfg = true := by decide
theorem witness_ClearAllStepsResetRecord : (atStep 4).led.readsInRange cfg = true := by decide
theorem witness_ColourStepsLightOnePosition :
    (atStep 7).led.readsInRange cfg = true ∧ (atStep 7).led.ready = true ∧ (atStep 7).led.st = .idle ∧
    cfg.posRed.toNat < cfg.pixels ∧ cfg.posGreen.toNat < cfg.pixels ∧ cfg.posBlue.toNat < cfg.pixels ∧
    (at_ .tx).led.readsInRange cfg = true ∧ (at_ .tx).led.ready = false := by decide
theorem witness_FlushStepsStartFrame :
    ((atStep 8).led.readsInRange cfg = true ∧ (atStep 8).led.ready = true ∧ (atStep 8).led.st = .idle) ∧
    ((at_ .uninit).led.readsInRange cfg = true ∧ (at_ .uninit).led.st = .uninit) ∧
    ((at_ .tx).led.readsInRange cfg = true ∧ (at_ .tx).led.ready = false) := by decide
theorem witness_ClearStepsBlankBuffer :
    ((atStep 11).led.readsInRange cfg = true ∧ (atStep 11).led.ready = true ∧ (atStep 11).led.st = .idle) ∧
    ((at_ .uninit).led.readsInRange cfg = true ∧ (at_ .uninit).led.st = .uninit) ∧
    ((at_ .tx).led.readsInRange cfg = true ∧ (at_ .tx).led.ready = false) := by decide
theorem witness_FlushWaitsCompleteAtIdle :
    (at_ .tx).led.readsInRange cfg = true ∧ (at_ .idle).led.readsInRange cfg = true := by decide
theorem witness_FixedWaitsCompleteAtDeadline : (atStep 10).led.readsInRange cfg = true := by decide
theorem witness_CountdownOffPassesSlot : (atStep 14).led.readsInRange cfg = true := by decide
theorem witness_DrawTakesTargetAndSnapshot :
    (atStep 15).led.readsInRange cfg = true ∧
      ∀ r ∈ [0#2, 1, 2, 3], (given { calm with rnd := r } (atStep 15)).pins.rnd = r := by decide
theorem witness_PollScoresHitBeforeDeadline : (atStep 19).led.readsInRange cfg = true := by decide
/-- Each of the five steps, a step beside each run of them, and a request that waits. -/
theorem witness_ToneStepsCompleteAtTransfer :
    ((atStep 20).led.readsInRange cfg = true ∧ (atStep 20).pins.toneReady = true ∧
      (given { calm with toneReady := false } (atStep 20)).pins.toneReady = false) ∧
    (∀ u ∈ [20#6, 21#6, 22#6, 27#6, 28#6], (atStep u).clientWord = none ∧ (atStep u).seq.upc = u) ∧
    (∀ u ∈ [19#6, 23#6, 26#6, 29#6], (atStep u).clientWord = none ∧
      (atStep u).seq.upc ∉ [20#6, 21#6, 22#6, 27#6, 28#6] ∧ (atStep u).toneValid = false) ∧
    (let s := given { calm with toneReady := false } (atStep 28)
     s.clientWord = none ∧ s.pins.rst = false ∧ s.toneValid = true ∧ s.pins.toneReady = false ∧
      ∃ t, t.clientWord = none ∧ step s = .next t) :=
  ⟨by decide, by decide, by decide, rfl, rfl, by decide, rfl, _, rfl, rfl⟩
theorem witness_StatusLedStepsWriteOutputs : (atStep 23).led.readsInRange cfg = true := by decide
theorem witness_NextRoundOrVerdict : (atStep 35).led.readsInRange cfg = true := by decide
theorem witness_HaltStepsHold : (atStep 63).led.readsInRange cfg = true := by decide
/-- The first and the last step of each top-level state (30_encoding.md R106). -/
theorem witness_StatusWordsShowRegisters :
    stateOf (atStep 0).seq.upc = 0 ∧ stateOf (atStep 1).seq.upc = 0 ∧
    stateOf (atStep 2).seq.upc = 1 ∧ stateOf (atStep 4).seq.upc = 1 ∧
    stateOf (atStep 5).seq.upc = 2 ∧ stateOf (atStep 14).seq.upc = 2 ∧
    stateOf (atStep 15).seq.upc = 3 ∧ stateOf (atStep 25).seq.upc = 3 ∧
    stateOf (atStep 26).seq.upc = 4 ∧ stateOf (atStep 35).seq.upc = 4 ∧
    stateOf (atStep 36).seq.upc = 5 ∧ stateOf (atStep 38).seq.upc = 5 ∧
    stateOf (atStep 39).seq.upc = 7 ∧ stateOf (atStep 63).seq.upc = 7 := by decide
theorem witness_InvariantAtReset : cfg.Valid := cfg_valid
theorem witness_StepKeepsInvariant : ∃ t, play.Inv ∧ step play = .next t := ⟨_, play_inv, rfl⟩
theorem witness_InvariantRulesOutFaults : play.Inv ∧ play.clientWord = none := ⟨play_inv, rfl⟩
theorem witness_AssembledInvariantAtReset : cfg.Valid := cfg_valid
theorem witness_StepKeepsAssembledInvariant : ∃ t, play.AssembledInv ∧ step play = .next t :=
  ⟨_, play_assembledInv, rfl⟩
theorem witness_AssembledRunsForEver : play.AssembledInv ∧ cfg.Valid := ⟨play_assembledInv, cfg_valid⟩
/-- The step it takes awards 700 points. -/
theorem witness_ScoreChangesOnlyInThreeSteps :
    ∃ t, { play with latch := { play.latch with flagA := true } }.Inv ∧ play.pins.rst = false ∧
      step { play with latch := { play.latch with flagA := true } } = .next t ∧ t.seq.score = 700 :=
  ⟨_, ⟨play_inv.valid, play_inv.led, by constructor <;> decide, play_inv.presc, play_inv.seq⟩, rfl, rfl, by decide⟩
theorem witness_TopLevelTransitionsOnly :
    ∃ t, play.client.script = [] ∧ play.pins.rst = false ∧ step play = .next t := ⟨_, rfl, rfl, rfl⟩
/-- Each of the nine steps, a step beside each run of them, and a command that waits. -/
theorem witness_LedPortCarriesWordOfStep :
    (∀ u ∈ [0#6, 7#6, 16#6, 11#6, 32#6, 8#6, 12#6, 17#6, 33#6],
      (atStep u).clientWord = none ∧ (atStep u).seq.upc = u ∧ (atStep u).ledCmdValid = true) ∧
    (∀ u ∈ [1#6, 6#6, 9#6, 10#6, 13#6, 15#6, 18#6, 31#6, 34#6],
      (atStep u).clientWord = none ∧ (atStep u).ledCmdValid = false ∧
        (atStep u).seq.upc ∉ [0#6, 7#6, 8#6, 11#6, 12#6, 16#6, 17#6, 32#6, 33#6]) ∧
    (let s := { at_ .tx with seq := (atStep 7).seq }
     s.clientWord = none ∧ s.pins.rst = false ∧ s.ledCmdValid = true ∧ s.led.ready = false ∧
      ∃ t, t.clientWord = none ∧ step s = .next t) :=
  ⟨by decide, by decide, rfl, rfl, by decide, rfl, _, rfl, rfl⟩

end Sys2Proof.Tests
end

section
/-! Reset (10_state.md R54, 70_reset_and_hazards.md R330): the registers a reset edge and the state of cycle 0
hold. -/

namespace Sys2Proof.Machine

/-! ## `State.resetWith` -/

@[simp] theorem State.resetWith_cfg (c : Config) : (State.resetWith c).cfg = c := rfl

@[simp] theorem State.resetWith_led (c : Config) : (State.resetWith c).led = Led.atReset := rfl

@[simp] theorem State.resetWith_latch (c : Config) : (State.resetWith c).latch = Latch.atReset c := rfl

@[simp] theorem State.resetWith_timer (c : Config) : (State.resetWith c).timer = Timer.atReset := rfl

@[simp] theorem State.resetWith_seq (c : Config) : (State.resetWith c).seq = Seq.atReset := rfl

/-! ## The registers at their reset values -/

/-- Every register of the reset table (10_state.md R54) holds its reset value, under the configuration the
state has. -/
def State.AtReset (t : State) : Prop :=
  t.led = Led.atReset ∧ t.latch = Latch.atReset t.cfg ∧ t.timer = Timer.atReset ∧ t.seq = Seq.atReset

theorem State.resetEdge_atReset (s : State) : s.resetEdge.AtReset :=
  ⟨s.resetEdge_led, s.resetEdge_latch, s.resetEdge_timer, s.resetEdge_seq⟩

theorem State.resetWith_atReset (c : Config) : (State.resetWith c).AtReset :=
  ⟨State.resetWith_led c, State.resetWith_latch c, State.resetWith_timer c, State.resetWith_seq c⟩

/-- With `rst` = 1 no instruction matters: the step is the reset edge. -/
theorem step_of_rst {s : State} (hr : s.pins.rst = true) : step s = .next s.resetEdge := by
  unfold step
  exact if_pos hr

/-- Settles O6: the step from a state with `rst` = 1 is its reset edge, and both the reset edge and
`State.resetWith` hold the values of the reset table, which the statement writes out. -/
theorem resetRestoresResetValues : Obligations.ResetRestoresResetValues := by
  unfold Obligations.ResetRestoresResetValues
  refine ⟨fun s hr => ?_, fun c => ?_⟩
  · exact ⟨s.resetEdge, step_of_rst hr, s.resetEdge_atReset, s.resetEdge_cfg⟩
  · exact ⟨State.resetWith_atReset c, State.resetWith_cfg c⟩

end Sys2Proof.Machine
end

section
/-! The opcode map of the LED command words (30_encoding.md R90 to R92), read through the fields: a row's mask
test on the 48-bit word is a test of the fields `op`, `rsv` and the operands, and a word some row takes is a
well-formed one. -/

namespace Sys2Proof

/-! ## A word and its fields -/

/-- Two words cut at the same bit are equal when both parts are. -/
theorem append_eq_append_iff {m n : Nat} {x x' : BitVec m} {y y' : BitVec n} :
    x ++ y = x' ++ y' ↔ x = x' ∧ y = y' := by
  constructor
  · intro h
    have hx := congrArg (BitVec.extractLsb' n m) h
    have hy := congrArg (BitVec.extractLsb' 0 n) h
    rw [BitVec.extractLsb'_append_eq_left, BitVec.extractLsb'_append_eq_left] at hx
    rw [BitVec.extractLsb'_append_eq_right, BitVec.extractLsb'_append_eq_right] at hy
    exact ⟨hx, hy⟩
  · rintro ⟨rfl, rfl⟩
    rfl

/-- The fields `op`, `rsv` and operands side by side are the whole word (30_encoding.md R88). -/
theorem lcmd_fields_append (w : LedWord) : lcmdOp w ++ lcmdRsv w ++ lcmdOperands w = w := by
  have hhead : lcmdOp w ++ lcmdRsv w = w.extractLsb' 40 8 :=
    BitVec.extractLsb'_append_extractLsb'_eq_extractLsb' rfl
  have hword : w.extractLsb' 40 8 ++ lcmdOperands w = w.extractLsb' 0 48 :=
    BitVec.extractLsb'_append_extractLsb'_eq_extractLsb' rfl
  rw [hhead, hword, BitVec.extractLsb'_eq_self]

/-! ## The two masks of the opcode map -/

/-- The mask of a row without operands covers every field. -/
theorem and_wordMask_eq_iff (w : LedWord) (op : BitVec 4) :
    w &&& 0xFFFFFFFFFFFF#48 = op ++ 0#4 ++ 0#40 ↔
      lcmdOp w = op ∧ lcmdRsv w = 0 ∧ lcmdOperands w = 0 := by
  have hmask : 0xFFFFFFFFFFFF#48 = BitVec.allOnes 48 := by decide
  rw [hmask, BitVec.and_allOnes]
  conv_lhs => rw [← lcmd_fields_append w]
  rw [append_eq_append_iff, append_eq_append_iff, and_assoc]
  rfl

/-- The mask of SET_PIXEL's row covers `op` and `rsv` and leaves the operands free. -/
theorem and_opMask_eq_iff (w : LedWord) (op : BitVec 4) :
    w &&& 0xFF0000000000#48 = op ++ 0#4 ++ 0#40 ↔ lcmdOp w = op ∧ lcmdRsv w = 0 := by
  have hmask : 0xFF0000000000#48 = BitVec.allOnes 4 ++ BitVec.allOnes 4 ++ 0#40 := by decide
  conv_lhs => rw [← lcmd_fields_append w]
  rw [hmask, BitVec.and_append, BitVec.and_append, BitVec.and_allOnes, BitVec.and_allOnes,
    BitVec.and_zero, append_eq_append_iff, append_eq_append_iff, and_iff_left rfl]
  rfl

/-! ## The decoder by fields -/

/-- The opcode map with each row's mask test written as a test of the fields. -/
theorem decodeLcmd_eq_of_fields (w : LedWord) :
    decodeLcmd w =
      if lcmdOp w = 0 ∧ lcmdRsv w = 0 ∧ lcmdOperands w = 0 then .nop
      else if lcmdOp w = 1 ∧ lcmdRsv w = 0 ∧ lcmdOperands w = 0 then .init
      else if lcmdOp w = 2 ∧ lcmdRsv w = 0 then .setPixel (lcmdIdx w) (lcmdR w) (lcmdG w) (lcmdB w)
      else if lcmdOp w = 3 ∧ lcmdRsv w = 0 ∧ lcmdOperands w = 0 then .clear
      else if lcmdOp w = 4 ∧ lcmdRsv w = 0 ∧ lcmdOperands w = 0 then .flush
      else .illegal := by
  simp only [← and_wordMask_eq_iff, ← and_opMask_eq_iff]
  rfl

/-- An opcode of the map is one of its five rows. -/
theorem opcode_toNat_le_four_iff (op : BitVec 4) :
    op.toNat ≤ 4 ↔ op = 0 ∨ op = 1 ∨ op = 2 ∨ op = 3 ∨ op = 4 := by
  revert op
  decide

/-- The opcode map leaves exactly the words with `wf` false to the illegal row (30_encoding.md R91, R92). -/
theorem decodeLcmd_ne_illegal_iff_lcmdWf (w : LedWord) :
    decodeLcmd w ≠ .illegal ↔ lcmdWf w = true := by
  rw [lcmdWf_iff, opcode_toNat_le_four_iff, decodeLcmd_eq_of_fields]
  constructor
  · intro hlegal
    split_ifs at hlegal with hnop hinit hset hclear hflush
    · obtain ⟨hop, hrsv, hoperands⟩ := hnop
      exact ⟨.inl hop, hrsv, .inr hoperands⟩
    · obtain ⟨hop, hrsv, hoperands⟩ := hinit
      exact ⟨.inr (.inl hop), hrsv, .inr hoperands⟩
    · obtain ⟨hop, hrsv⟩ := hset
      exact ⟨.inr (.inr (.inl hop)), hrsv, .inl hop⟩
    · obtain ⟨hop, hrsv, hoperands⟩ := hclear
      exact ⟨.inr (.inr (.inr (.inl hop))), hrsv, .inr hoperands⟩
    · obtain ⟨hop, hrsv, hoperands⟩ := hflush
      exact ⟨.inr (.inr (.inr (.inr hop))), hrsv, .inr hoperands⟩
    · exact absurd rfl hlegal
  · rintro ⟨hop, hrsv, hset | hoperands⟩
    · simp [hset, hrsv]
    · rcases hop with hop | hop | hop | hop | hop <;> simp [hop, hrsv, hoperands]

/-- Settles O3: a word is legal exactly when `wf` holds of it, and the statement writes `wf` out over the bits,
its exemption of SET_PIXEL as an implication. -/
theorem ledWordLegalIffWellFormed : Obligations.LedWordLegalIffWellFormed := by
  unfold Obligations.LedWordLegalIffWellFormed
  intro w
  rw [decodeLcmd_ne_illegal_iff_lcmdWf, lcmdWf_iff, or_iff_not_imp_left]
  rfl

end Sys2Proof
end

section
/-! The LED driver around one command or one cycle (40_led_driver.md R122 to R133, R142, R143): the level of the
line, the command port, the commands that only set an error bit, and the rest of a step from FATAL. -/

namespace Sys2Proof.Machine

/-! ## The line -/

theorem State.ledDout_of_not_tx {s : State} (h : s.led.st ≠ .tx) : s.ledDout = false := by
  simp [State.ledDout, h]

/-- In TX the line follows the high time of the data bit of the element under transmission. -/
theorem State.ledDout_of_tx {s : State} {v : Pixel} (hst : s.led.st = .tx)
    (hv : s.led.fb.read s.led.pix.toNat = some v) :
    s.ledDout = decide (s.led.cnt.toNat <
      if v.getLsbD s.led.bit.toNat then s.cfg.t1hCycles else s.cfg.t0hCycles) := by
  have hbit : s.led.dataBit = v.getLsbD s.led.bit.toNat := by
    rw [Led.dataBit, hv, Option.getD_some]
  simp only [State.ledDout, hst, hbit, highTime, true_and]

/-- Settles O20: both clauses are what `ledDout` is outside TX and in TX. -/
theorem lineLevelOfSymbol : Obligations.LineLevelOfSymbol := by
  unfold Obligations.LineLevelOfSymbol
  exact fun s => ⟨State.ledDout_of_not_tx, fun hst _ hv => State.ledDout_of_tx hst hv⟩

/-! ## Readiness (R123) -/

theorem Led.ready_iff (l : Led) : l.ready = true ↔ l.st = .uninit ∨ l.st = .idle := by
  rw [Led.ready, decide_eq_true_eq]

theorem Led.not_ready_of_busy {l : Led} (h : l.st = .tx ∨ l.st = .latch ∨ l.st = .fatal) :
    l.ready = false := by
  rcases h with h | h | h <;> simp [Led.ready, h]

/-! ## The driver in a step -/

/-- All a step without reset does to the driver: one cycle with the word of the LED port. -/
theorem step_led {s t : State} (hr : s.pins.rst = false) (h : step s = .next t) :
    t.led = s.led.cycle s.cfg (s.ledPort.map decodeLcmd) := by
  obtain ⟨_, q, rfl, _⟩ := step_next hr h
  rfl

/-- Settles O21: a FATAL driver takes no command, keeps the line low and holds its registers in a cycle; a
reset edge leaves it UNINIT. -/
theorem fatalDriverHolds : Obligations.FatalDriverHolds := by
  unfold Obligations.FatalDriverHolds
  intro s t hst h
  refine ⟨Led.not_ready_of_busy (.inr (.inr hst)), State.ledDout_of_not_tx (by simp [hst]),
    fun hr => ?_, fun hr => ?_⟩
  · rw [step_led hr h, Led.cycle_fatal hst]
  · rw [step_of_rst hr] at h
    injection h with h
    rw [← h, State.resetEdge_led]
    rfl

/-! ## A command on the port -/

/-- A client's LED command on a port that is not ready is held: the edge is a quiet one. -/
theorem presentLed_not_ready {k : LedCmd} {s : State} (hready : s.led.ready = false)
    (hread : s.led.readsInRange s.cfg = true) :
    ∃ t, clientEdge { led := some k } s = .next t ∧ t.seq = s.seq ∧ QuietEdge s t :=
  ⟨_, clockEdge_eq hread, rfl, edgeRest_clocked _ _ rfl, noLedCommand_of_not_ready _ _ hready, by simp⟩

theorem exec_nop (s : State) : exec .nop s = clientEdge { led := some .nop } s := rfl

theorem exec_setPixel (idx : BitVec 16) (r g b : BitVec 8) (s : State) :
    exec (.setPixel idx r g b) s = clientEdge { led := some (.setPixel idx r g b) } s := rfl

theorem exec_clear (s : State) : exec .clear s = clientEdge { led := some .clear } s := rfl

theorem exec_flush (s : State) : exec .flush s = clientEdge { led := some .flush } s := rfl

theorem exec_lcmdReserved (w : LedWord) (s : State) :
    exec (.lcmdReserved w) s = clientEdge { led := some .illegal } s := rfl

/-- Settles O7: a ready port runs NOP, which is the identity on the driver; a busy port holds it off. -/
theorem nopChangesNoRegister : Obligations.NopChangesNoRegister := by
  unfold Obligations.NopChangesNoRegister
  refine ⟨by decide, fun s hst => ?_, fun s hst hread => ?_⟩
  · have hready := (Led.ready_iff s.led).mpr hst
    obtain ⟨t, he, hseq, hcollab, hrest, hled⟩ := presentLed_ready (k := .nop) hready
    exact ⟨hready, t, he, hled, hseq, hcollab, hrest⟩
  · have hready := Led.not_ready_of_busy hst
    exact ⟨hready, presentLed_not_ready hready hread⟩

/-! ## Commands that set an error bit (R128, R131, R132) -/

theorem Led.run_setPixel_out_of_range {c : Config} {idx : BitVec 16} {l : Led} (r g b : BitVec 8)
    (hst : l.st = .idle) (h : c.pixels ≤ idx.toNat) :
    Led.run c (.setPixel idx r g b) l = l.raiseError .range := by
  simp [Led.run, Led.setPixelCmd, hst, h]

theorem Led.run_setPixel_in_range {c : Config} {idx : BitVec 16} {l : Led} (r g b : BitVec 8)
    (hst : l.st = .idle) (h : idx.toNat < c.pixels) :
    Led.run c (.setPixel idx r g b) l = { l with fb := l.fb.write idx.toNat (g ++ r ++ b) } := by
  simp [Led.run, Led.setPixelCmd, hst, Nat.not_le.mpr h]

theorem Led.run_setPixel_uninit {c : Config} {l : Led} (idx : BitVec 16) (r g b : BitVec 8)
    (hst : l.st = .uninit) : Led.run c (.setPixel idx r g b) l = l.raiseError .notInit :=
  if_pos hst

theorem Led.run_clear_uninit {c : Config} {l : Led} (hst : l.st = .uninit) :
    Led.run c .clear l = l.raiseError .notInit :=
  if_pos hst

theorem Led.run_flush_uninit {c : Config} {l : Led} (hst : l.st = .uninit) :
    Led.run c .flush l = l.raiseError .notInit :=
  if_pos hst

theorem Led.run_illegal (c : Config) (l : Led) : Led.run c .illegal l = l.raiseError .illegal := rfl

/-- A client's command that a ready driver answers with an error sets the bit and leaves everything else. -/
theorem presentLed_raises {k : LedCmd} {e : LedError} {s : State} (hready : s.led.ready = true)
    (hrun : Led.run s.cfg k s.led = s.led.raiseError e) :
    ∃ t, clientEdge { led := some k } s = .next t ∧ t.seq = s.seq ∧ t.collab = s.collab ∧
      EdgeRest 0b00 s t ∧ t.led = { s.led with err := s.led.err ||| errorBit e } ∧
      ∀ a, t.led.fb.read a = s.led.fb.read a := by
  obtain ⟨t, he, hseq, hcollab, hrest, hled⟩ := presentLed_ready (k := k) hready
  rw [hrun] at hled
  exact ⟨t, he, hseq, hcollab, hrest, hled, fun a => by rw [hled, Led.raiseError_fb]⟩

/-- Settles O11: an index of N or more raises RANGE. -/
theorem setPixelOutOfRangeRejected : Obligations.SetPixelOutOfRangeRejected := by
  unfold Obligations.SetPixelOutOfRangeRejected
  intro s idx r g b hst hidx
  rw [exec_setPixel]
  exact presentLed_raises ((Led.ready_iff _).mpr (.inr hst)) (Led.run_setPixel_out_of_range r g b hst hidx)

/-- Settles O12: each of the three commands raises NOT_INIT, and the driver stays in UNINIT, where the line
is low. -/
theorem commandsBeforeInitRefused : Obligations.CommandsBeforeInitRefused := by
  unfold Obligations.CommandsBeforeInitRefused
  intro s i hst hi
  have hcmd : ∃ k, exec i s = clientEdge { led := some k } s ∧
      Led.run s.cfg k s.led = s.led.raiseError .notInit := by
    rcases hi with ⟨idx, r, g, b, rfl⟩ | rfl | rfl
    · exact ⟨_, exec_setPixel idx r g b s, Led.run_setPixel_uninit idx r g b hst⟩
    · exact ⟨_, exec_clear s, Led.run_clear_uninit hst⟩
    · exact ⟨_, exec_flush s, Led.run_flush_uninit hst⟩
  obtain ⟨k, hexec, hrun⟩ := hcmd
  obtain ⟨t, he, hseq, hcollab, hrest, hled, hfb⟩ :=
    presentLed_raises ((Led.ready_iff _).mpr (.inl hst)) hrun
  have hline : t.ledDout = false := State.ledDout_of_not_tx (by simp [hled, hst])
  exact ⟨t, hexec.trans he, hseq, hcollab, hrest, hled, hfb, hline⟩

/-- A word with `wf` false decodes to the reserved row, which keeps the word (30_encoding.md R92). -/
theorem decode_lcmd_of_not_wf {w : LedWord} (h : lcmdWf w = false) :
    decode (.port (.lcmd w)) = .ok (.lcmdReserved w) := by
  have hillegal : decodeLcmd w = .illegal := by
    by_contra hlegal
    rw [← ne_eq, decodeLcmd_ne_illegal_iff_lcmdWf, h] at hlegal
    cases hlegal
  simp only [decode, decodeLcmdWord, hillegal]

/-- Settles O13: a word with `wf` false selects the reserved row, which raises ILLEGAL in UNINIT and IDLE
alike. -/
theorem illegalWordSetsIllegalBit : Obligations.IllegalWordSetsIllegalBit := by
  unfold Obligations.IllegalWordSetsIllegalBit
  intro s w hst hwf
  rw [exec_lcmdReserved]
  exact ⟨decode_lcmd_of_not_wf hwf, presentLed_raises ((Led.ready_iff _).mpr hst) (Led.run_illegal _ _)⟩

end Sys2Proof.Machine
end

section
/-! CLEAR and N commands SET_PIXEL of black (40_led_driver.md R135): both leave the one canonical buffer that
holds 0 below N and nothing from N on. -/

namespace Sys2Proof.Machine

theorem Led.run_clear_idle {c : Config} {l : Led} (hst : l.st = .idle) :
    Led.run c .clear l = { l with fb := Memory.fill c.pixels 0 } := by
  simp [Led.run, Led.clearCmd, hst]

/-- The driver after `SET_PIXEL i, 0, 0, 0` for `i` from 0 to `n - 1`. -/
def Led.blackened (c : Config) (n : Nat) (l : Led) : Led :=
  (List.range n).foldl (fun d i => Led.run c (.setPixel (BitVec.ofNat 16 i) 0 0 0) d) l

theorem Led.blackened_succ (c : Config) (n : Nat) (l : Led) :
    l.blackened c (n + 1) = Led.run c (.setPixel (BitVec.ofNat 16 n) 0 0 0) (l.blackened c n) := by
  simp [Led.blackened, List.range_succ, List.foldl_append]

/-- After `n` of the N commands only the buffer has changed: it is canonical, black below `n`, and as it was
from `n` on. -/
theorem Led.blackened_fb {c : Config} {l : Led} (hst : l.st = .idle) (hN : c.pixels ≤ 65535)
    (hwf : l.fb.wf = true) {n : Nat} (hn : n ≤ c.pixels) :
    ∃ m : Memory, l.blackened c n = { l with fb := m } ∧ m.wf = true ∧
      ∀ i, m.read i = if i < n then some 0 else l.fb.read i := by
  induction n with
  | zero => exact ⟨l.fb, rfl, hwf, fun i => by rw [if_neg (Nat.not_lt_zero i)]⟩
  | succ n ih =>
    obtain ⟨m, hm, hmwf, hread⟩ := ih (by omega)
    have hidx : (BitVec.ofNat 16 n).toNat = n := Nat.mod_eq_of_lt (by omega)
    refine ⟨m.write n 0, ?_, Memory.wf_write m n 0 hmwf, fun i => ?_⟩
    · have hrun := Led.run_setPixel_in_range (l := { l with fb := m }) 0 0 0 hst
        (show (BitVec.ofNat 16 n).toNat < c.pixels by omega)
      rw [Led.blackened_succ, hm, hrun, hidx]
      rfl
    · rw [Memory.read_write, hread]
      by_cases hi : i = n
      · rw [if_pos hi, if_pos (by omega)]
      · have hlt : i < n + 1 ↔ i < n := by omega
        rw [if_neg hi, if_congr hlt rfl rfl]

/-- Settles O18: after all N commands the buffer reads as CLEAR's does, and two canonical buffers that read
alike are the same data. -/
theorem clearEqualsSetPixelEverywhere : Obligations.ClearEqualsSetPixelEverywhere := by
  unfold Obligations.ClearEqualsSetPixelEverywhere
  intro c l hst hN hwf hbound
  obtain ⟨m, hm, hmwf, hread⟩ := Led.blackened_fb hst hN hwf (Nat.le_refl c.pixels)
  have hfill : m = Memory.fill c.pixels 0 := by
    refine Memory.ext_of_wf m _ hmwf (Memory.wf_fill _ _) fun i => ?_
    rw [hread, Memory.read_fill]
    by_cases hi : i < c.pixels
    · rw [if_pos hi, if_pos hi]
    · have hnone : l.fb.read i = none := by
        rw [← Option.not_isSome_iff_eq_none]
        exact fun hsome => hi (hbound i hsome)
      rw [if_neg hi, if_neg hi, hnone]
  calc (List.range c.pixels).foldl (fun d i => Led.run c (.setPixel (BitVec.ofNat 16 i) 0 0 0) d) l
      = l.blackened c c.pixels := rfl
    _ = { l with fb := m } := hm
    _ = Led.run c .clear l := by rw [hfill, Led.run_clear_idle hst]

end Sys2Proof.Machine
end

section
/-! The frame of a FLUSH (40_led_driver.md R136 to R141): the driver in every cycle of it in closed form, that
FLUSH starts it, and that each cycle leads to the next, whatever stands on the port. -/

namespace Sys2Proof

/-- `24 * N * SYM_CYCLES`, the cycles a frame spends in TX. -/
def Config.dataCycles (c : Config) : Nat := 24 * c.pixels * c.symCycles

/-- The parameters in the range of the driver's registers (00_scope.md R9; log 20). -/
structure Config.FrameFits (c : Config) : Prop where
  pixels : 1 ≤ c.pixels ∧ c.pixels ≤ 65535
  sym : 3 ≤ c.symCycles ∧ c.symCycles ≤ 2 ^ 32
  hold : 1 ≤ c.resetCycles ∧ c.resetCycles ≤ 2 ^ 32

theorem Config.FrameFits.dataCycles_pos {c : Config} (hc : c.FrameFits) : 0 < c.dataCycles := by
  obtain ⟨hpix, _⟩ := hc.pixels
  obtain ⟨hsym, _⟩ := hc.sym
  exact Nat.mul_pos (by omega) (by omega)

/-- The symbols of a frame are numbered below `24 * N`. -/
theorem Config.symbol_lt {c : Config} {k : Nat} (h : k < c.dataCycles) :
    k / c.symCycles < 24 * c.pixels :=
  Nat.div_lt_of_lt_mul (by rwa [Nat.mul_comm])

end Sys2Proof

namespace Sys2Proof.Machine

/-! ## The frame in closed form -/

/-- Cycle `j` of symbol `n`: bit `23 - n mod 24` of element `n div 24` (20_memory.md section 2). -/
def Led.sending (l : Led) (n j : Nat) : Led :=
  { l with st := .tx, pix := BitVec.ofNat 16 (n / 24), bit := BitVec.ofNat 5 (23 - n % 24),
           cnt := BitVec.ofNat 32 j }

/-- Cycle `j` of the hold after the last symbol, `24 * N - 1`, at which `pix` and `bit` stay. -/
def Led.holding (c : Config) (l : Led) (j : Nat) : Led :=
  { l.sending (24 * c.pixels - 1) j with st := .latch }

/-- The driver when the hold is over. -/
def Led.frameDone (c : Config) (l : Led) : Led := { l.holding c 0 with st := .idle }

/-- The driver in cycle `k` after the edge that accepted FLUSH. -/
def Led.frameAt (c : Config) (l : Led) (k : Nat) : Led :=
  if k < c.dataCycles then l.sending (k / c.symCycles) (k % c.symCycles)
  else if k < c.dataCycles + c.resetCycles then l.holding c (k - c.dataCycles)
  else l.frameDone c

theorem Led.frameAt_of_data {c : Config} {k : Nat} (l : Led) (h : k < c.dataCycles) :
    l.frameAt c k = l.sending (k / c.symCycles) (k % c.symCycles) :=
  if_pos h

/-- Cycle `j` of symbol `n` is cycle `SYM_CYCLES * n + j` of the frame. -/
theorem Led.frameAt_of_symbol {c : Config} {n j : Nat} (l : Led) (hn : n < 24 * c.pixels)
    (hj : j < c.symCycles) : l.frameAt c (c.symCycles * n + j) = l.sending n j := by
  have hdata : c.symCycles * n + j < c.dataCycles :=
    calc c.symCycles * n + j
        < c.symCycles * (n + 1) := by rw [Nat.mul_add]; omega
      _ ≤ c.symCycles * (24 * c.pixels) := Nat.mul_le_mul_left _ hn
      _ = c.dataCycles := Nat.mul_comm _ _
  rw [Led.frameAt_of_data l hdata, Nat.mul_add_div (by omega), Nat.div_eq_of_lt hj, Nat.mul_add_mod,
    Nat.mod_eq_of_lt hj, Nat.add_zero]

theorem Led.frameAt_of_hold {c : Config} {k : Nat} (l : Led) (hdata : c.dataCycles ≤ k)
    (h : k < c.dataCycles + c.resetCycles) : l.frameAt c k = l.holding c (k - c.dataCycles) := by
  rw [Led.frameAt, if_neg (Nat.not_lt.mpr hdata), if_pos h]

theorem Led.frameAt_of_end {c : Config} {k : Nat} (l : Led) (h : c.dataCycles + c.resetCycles ≤ k) :
    l.frameAt c k = l.frameDone c := by
  rw [Led.frameAt, if_neg (by omega), if_neg (by omega)]

@[simp] theorem Led.frameAt_fb (c : Config) (l : Led) (k : Nat) : (l.frameAt c k).fb = l.fb := by
  unfold Led.frameAt
  split_ifs <;> rfl

@[simp] theorem Led.frameAt_err (c : Config) (l : Led) (k : Nat) : (l.frameAt c k).err = l.err := by
  unfold Led.frameAt
  split_ifs <;> rfl

/-! ## The registers of a symbol -/

theorem Led.sending_pix_toNat {l : Led} {n j : Nat} (h : n / 24 < 2 ^ 16) :
    (l.sending n j).pix.toNat = n / 24 :=
  Nat.mod_eq_of_lt h

theorem Led.sending_bit_toNat (l : Led) (n j : Nat) : (l.sending n j).bit.toNat = 23 - n % 24 :=
  Nat.mod_eq_of_lt (by omega)

theorem Led.sending_cnt_toNat {l : Led} {n j : Nat} (h : j < 2 ^ 32) : (l.sending n j).cnt.toNat = j :=
  Nat.mod_eq_of_lt h

/-! ## One cycle of a symbol (R139, R140) -/

theorem Led.txCycle_within_symbol {c : Config} {l : Led} (h : l.cnt.toNat ≠ c.symCycles - 1) :
    l.txCycle c = { l with cnt := l.cnt + 1 } := by
  rw [Led.txCycle, if_neg h]

theorem Led.txCycle_next_bit {c : Config} {l : Led} (h : l.cnt.toNat = c.symCycles - 1) (hbit : l.bit ≠ 0) :
    l.txCycle c = { l with bit := l.bit - 1, cnt := 0 } := by
  rw [Led.txCycle, if_pos h, if_neg hbit]

theorem Led.txCycle_next_element {c : Config} {l : Led} (h : l.cnt.toNat = c.symCycles - 1)
    (hbit : l.bit = 0) (hpix : l.pix.toNat ≠ c.pixels - 1) :
    l.txCycle c = { l with pix := l.pix + 1, bit := 23, cnt := 0 } := by
  rw [Led.txCycle, if_pos h, if_pos hbit, if_neg hpix]

theorem Led.txCycle_frame_end {c : Config} {l : Led} (h : l.cnt.toNat = c.symCycles - 1)
    (hbit : l.bit = 0) (hpix : l.pix.toNat = c.pixels - 1) :
    l.txCycle c = { l with st := .latch, cnt := 0 } := by
  rw [Led.txCycle, if_pos h, if_pos hbit, if_pos hpix]

theorem Led.sending_bit_eq_zero_iff (l : Led) (n j : Nat) : (l.sending n j).bit = 0 ↔ n % 24 = 23 := by
  have hzero : (0 : BitVec 5).toNat = 0 := rfl
  rw [← BitVec.toNat_inj, Led.sending_bit_toNat, hzero]
  omega

/-- Within a symbol only the cycle counter moves. -/
theorem Led.txCycle_sending {c : Config} {n j : Nat} (hc : c.FrameFits) (l : Led)
    (hj : j + 1 < c.symCycles) : (l.sending n j).txCycle c = l.sending n (j + 1) := by
  obtain ⟨_, hsym⟩ := hc.sym
  have hcnt := Led.sending_cnt_toNat (l := l) (n := n) (j := j) (by omega)
  rw [Led.txCycle_within_symbol (by omega)]
  simp only [Led.sending, BitVec.ofNat_add]
  rfl

/-- After the last cycle of a symbol the next symbol begins: the next bit of the element, or the first bit of
the next element. -/
theorem Led.txCycle_sending_last {c : Config} {n j : Nat} (hc : c.FrameFits) (l : Led)
    (hj : j + 1 = c.symCycles) (hn : n + 1 < 24 * c.pixels) :
    (l.sending n j).txCycle c = l.sending (n + 1) 0 := by
  obtain ⟨_, hpixels⟩ := hc.pixels
  obtain ⟨_, hsym⟩ := hc.sym
  have hcnt : (l.sending n j).cnt.toNat = c.symCycles - 1 := by
    rw [Led.sending_cnt_toNat (by omega)]; omega
  by_cases hlast : n % 24 = 23
  · have hpix : (l.sending n j).pix.toNat ≠ c.pixels - 1 := by
      rw [Led.sending_pix_toNat (by omega)]; omega
    have hdiv : (n + 1) / 24 = n / 24 + 1 := by omega
    have hmod : (n + 1) % 24 = 0 := by omega
    rw [Led.txCycle_next_element hcnt ((Led.sending_bit_eq_zero_iff l n j).mpr hlast) hpix]
    simp only [Led.sending, hdiv, hmod, BitVec.ofNat_add]
    rfl
  · have hbit : BitVec.ofNat 5 (23 - n % 24) - 1 = BitVec.ofNat 5 (23 - (n % 24 + 1)) := by
      apply BitVec.eq_of_toNat_eq
      simp only [BitVec.toNat_sub, BitVec.toNat_ofNat, BitVec.ofNat_eq_ofNat]
      omega
    have hdiv : (n + 1) / 24 = n / 24 := by omega
    have hmod : (n + 1) % 24 = n % 24 + 1 := by omega
    rw [Led.txCycle_next_bit hcnt (mt (Led.sending_bit_eq_zero_iff l n j).mp hlast)]
    simp only [Led.sending, hdiv, hmod, hbit]
    rfl

/-- The last cycle of the last symbol leads to the hold. -/
theorem Led.txCycle_sending_frame_end {c : Config} {n j : Nat} (hc : c.FrameFits) (l : Led)
    (hj : j + 1 = c.symCycles) (hn : n + 1 = 24 * c.pixels) :
    (l.sending n j).txCycle c = l.holding c 0 := by
  obtain ⟨_, hpixels⟩ := hc.pixels
  obtain ⟨_, hsym⟩ := hc.sym
  have hcnt : (l.sending n j).cnt.toNat = c.symCycles - 1 := by
    rw [Led.sending_cnt_toNat (by omega)]; omega
  have hpix : (l.sending n j).pix.toNat = c.pixels - 1 := by
    rw [Led.sending_pix_toNat (by omega)]; omega
  have hlast : n = 24 * c.pixels - 1 := by omega
  rw [Led.txCycle_frame_end hcnt ((Led.sending_bit_eq_zero_iff l n j).mpr (by omega)) hpix, hlast]
  rfl

/-! ## One cycle of the hold (R141) -/

theorem Led.holding_cnt_toNat {c : Config} {l : Led} {j : Nat} (h : j < 2 ^ 32) :
    (l.holding c j).cnt.toNat = j :=
  Nat.mod_eq_of_lt h

theorem Led.latchCycle_holding {c : Config} {j : Nat} (hc : c.FrameFits) (l : Led)
    (hj : j + 1 < c.resetCycles) : (l.holding c j).latchCycle c = l.holding c (j + 1) := by
  obtain ⟨_, hreset⟩ := hc.hold
  rw [Led.latchCycle, if_neg (by rw [Led.holding_cnt_toNat (by omega)]; omega)]
  simp only [Led.holding, Led.sending, BitVec.ofNat_add]
  rfl

theorem Led.latchCycle_holding_last {c : Config} {j : Nat} (hc : c.FrameFits) (l : Led)
    (hj : j + 1 = c.resetCycles) : (l.holding c j).latchCycle c = l.frameDone c := by
  obtain ⟨_, hreset⟩ := hc.hold
  rw [Led.latchCycle, if_pos (by rw [Led.holding_cnt_toNat (by omega)]; omega)]
  rfl

/-! ## The frame, cycle by cycle -/

/-- FLUSH starts the frame (R136). -/
theorem Led.run_flush_idle {c : Config} {l : Led} (hc : c.FrameFits) (hst : l.st = .idle) :
    Led.run c .flush l = l.frameAt c 0 := by
  rw [Led.frameAt_of_data l hc.dataCycles_pos, Nat.zero_div, Nat.zero_mod]
  simp only [Led.run, Led.flushCmd, hst, Led.sending]
  rfl

/-- A cycle in TX leads to the next cycle of the frame. -/
theorem Led.txCycle_frameAt {c : Config} {k : Nat} (hc : c.FrameFits) (l : Led) (hk : k < c.dataCycles) :
    (l.frameAt c k).txCycle c = l.frameAt c (k + 1) := by
  obtain ⟨hsym, _⟩ := hc.sym
  obtain ⟨hreset, _⟩ := hc.hold
  obtain ⟨n, j, hn, hj, rfl⟩ : ∃ n j, n < 24 * c.pixels ∧ j < c.symCycles ∧ k = c.symCycles * n + j :=
    ⟨k / c.symCycles, k % c.symCycles, Config.symbol_lt hk, Nat.mod_lt k (by omega),
      (Nat.div_add_mod k c.symCycles).symm⟩
  rw [Led.frameAt_of_symbol l hn hj]
  by_cases hlast : j + 1 = c.symCycles
  · have hk1 : c.symCycles * n + j + 1 = c.symCycles * (n + 1) := by rw [Nat.mul_add]; omega
    by_cases hend : n + 1 = 24 * c.pixels
    · have hdata : c.symCycles * (n + 1) = c.dataCycles := by rw [hend, Nat.mul_comm]; rfl
      rw [Led.txCycle_sending_frame_end hc l hlast hend, hk1, hdata,
        Led.frameAt_of_hold l (Nat.le_refl _) (by omega), Nat.sub_self]
    · rw [Led.txCycle_sending_last hc l hlast (by omega), hk1]
      exact (Led.frameAt_of_symbol l (j := 0) (by omega) (by omega)).symm
  · rw [Led.txCycle_sending hc l (by omega), Nat.add_assoc, Led.frameAt_of_symbol l hn (by omega)]

/-- A cycle of the hold leads to the next cycle of the frame. -/
theorem Led.latchCycle_frameAt {c : Config} {k : Nat} (hc : c.FrameFits) (l : Led) (hdata : c.dataCycles ≤ k)
    (hk : k < c.dataCycles + c.resetCycles) : (l.frameAt c k).latchCycle c = l.frameAt c (k + 1) := by
  rw [Led.frameAt_of_hold l hdata hk]
  by_cases hlast : k - c.dataCycles + 1 = c.resetCycles
  · rw [Led.latchCycle_holding_last hc l hlast, Led.frameAt_of_end l (by omega)]
  · rw [Led.latchCycle_holding hc l (by omega), Led.frameAt_of_hold l (by omega) (by omega),
      Nat.sub_add_comm hdata]

theorem Led.cycle_tx {c : Config} {cmd : Option LedCmd} {l : Led} (h : l.st = .tx) :
    l.cycle c cmd = l.txCycle c := by
  simp only [Led.cycle, h]

theorem Led.cycle_latch {c : Config} {cmd : Option LedCmd} {l : Led} (h : l.st = .latch) :
    l.cycle c cmd = l.latchCycle c := by
  simp only [Led.cycle, h]

/-- Each cycle of the frame leads to the next, whatever stands on the port. -/
theorem Led.cycle_frameAt {c : Config} {k : Nat} (hc : c.FrameFits) (l : Led) (cmd : Option LedCmd)
    (hk : k < c.dataCycles + c.resetCycles) : (l.frameAt c k).cycle c cmd = l.frameAt c (k + 1) := by
  by_cases hdata : k < c.dataCycles
  · have hst : (l.frameAt c k).st = .tx := by rw [Led.frameAt_of_data l hdata]; rfl
    rw [Led.cycle_tx hst, Led.txCycle_frameAt hc l hdata]
  · have hst : (l.frameAt c k).st = .latch := by rw [Led.frameAt_of_hold l (by omega) hk]; rfl
    rw [Led.cycle_latch hst, Led.latchCycle_frameAt hc l (by omega) hk]

/-- The run from the cycle in which FLUSH stands on the port of an IDLE driver stays on the frame to its
end. -/
theorem after_flush {s t : State} {k : Nat} (hc : s.cfg.FrameFits) (hst : s.led.st = .idle)
    (hport : s.ledPort = some 0x400000000000) (hrst : s.noResetFor (k + 1)) (h : s.after (k + 1) = .next t)
    (hk : k ≤ s.cfg.dataCycles + s.cfg.resetCycles) :
    t.cfg = s.cfg ∧ t.led = s.led.frameAt s.cfg k := by
  induction k generalizing t with
  | zero =>
    obtain ⟨u, hu, hstep⟩ := State.after_succ.mp h
    injection hu with hu
    subst hu
    have hcmd : s.ledPort.map decodeLcmd = some .flush := by rw [hport]; rfl
    have hready : s.led.ready = true := (Led.ready_iff _).mpr (.inr hst)
    refine ⟨step_cfg hstep, ?_⟩
    rw [step_led (hrst 0 s (by omega) rfl) hstep, hcmd, Led.cycle_some_of_ready hready,
      Led.run_flush_idle hc hst]
  | succ k ih =>
    obtain ⟨u, hu, hstep⟩ := State.after_succ.mp h
    obtain ⟨hcfg, hled⟩ := ih (State.noResetFor_mono hrst (by omega)) hu (by omega)
    have hr : u.pins.rst = false := hrst (k + 1) u (by omega) (State.inCycle_of_after hu)
    refine ⟨(step_cfg hstep).trans hcfg, ?_⟩
    rw [step_led hr hstep, hled, hcfg, Led.cycle_frameAt hc s.led _ (by omega)]

/-! ## What a cycle of the frame shows -/

/-- The line in cycle `j` of symbol `n`, by the element the symbol belongs to. -/
theorem State.ledDout_of_sending {t : State} {l : Led} {n j : Nat} {v : Pixel} (hled : t.led = l.sending n j)
    (hn : n / 24 < 2 ^ 16) (hj : j < 2 ^ 32) (hv : l.fb.read (n / 24) = some v) :
    t.ledDout = decide (j < if v.getLsbD (23 - n % 24) then t.cfg.t1hCycles else t.cfg.t0hCycles) := by
  have hpix := Led.sending_pix_toNat (l := l) (j := j) hn
  have hread : t.led.fb.read t.led.pix.toNat = some v := by rw [hled, hpix]; exact hv
  rw [State.ledDout_of_tx (by rw [hled]; rfl) hread, hled, Led.sending_cnt_toNat hj, Led.sending_bit_toNat]

/-- Settles O19: the driver `k + 1` steps after FLUSH is the frame's closed form at `k`, and each clause reads
it off in one of the frame's three parts. -/
theorem flushTransmitsFrame : Obligations.FlushTransmitsFrame := by
  unfold Obligations.FlushTransmitsFrame
  intro s t k hpixels hsym hhold hst hport hrst hrun
  have hc : s.cfg.FrameFits := ⟨hpixels, hsym, hhold⟩
  have frame := after_flush hc hst hport hrst hrun
  refine ⟨fun hk => ?_, fun hdata hk => ?_, fun hk => ?_, fun hk => ?_⟩
  · obtain ⟨hcfg, hled⟩ := frame (Nat.le_add_right_of_le (Nat.le_of_lt hk))
    rw [Led.frameAt_of_data s.led hk] at hled
    have hsymbol := Config.symbol_lt hk
    have hcycle : k % s.cfg.symCycles < s.cfg.symCycles := Nat.mod_lt k (by omega)
    refine ⟨hled, Led.not_ready_of_busy (.inl (by rw [hled]; rfl)), fun v hv => ?_⟩
    rw [State.ledDout_of_sending hled (by omega) (by omega) hv, hcfg]
  · obtain ⟨_, hled⟩ := frame (Nat.le_of_lt hk)
    rw [Led.frameAt_of_hold s.led hdata hk] at hled
    have hlatch : t.led.st = .latch := by rw [hled]; rfl
    exact ⟨hlatch, Led.not_ready_of_busy (.inr (.inl hlatch)), State.ledDout_of_not_tx (by simp [hlatch])⟩
  · obtain ⟨_, hled⟩ := frame (Nat.le_of_eq hk)
    rw [Led.frameAt_of_end s.led (Nat.le_of_eq hk.symm)] at hled
    have hidle : t.led.st = .idle := by rw [hled]; rfl
    exact ⟨hidle, (Led.ready_iff _).mpr (.inr hidle), State.ledDout_of_not_tx (by simp [hidle])⟩
  · obtain ⟨_, hled⟩ := frame hk
    rw [hled]
    exact ⟨Led.frameAt_fb _ _ k, Led.frameAt_err _ _ k⟩

end Sys2Proof.Machine
end

section
/-! The microsecond timer (43_game_fsm.md R216, R217): the rule of one edge, what a whole step does to it, and
its value in every cycle after a reset. -/

namespace Sys2Proof.Machine

/-! ## One edge of the timer -/

theorem Timer.tick_of_last {c : Config} {t : Timer} (h : t.presc = c.clkPerUs - 1) :
    t.tick c = { presc := 0, us := t.us + 1 } :=
  if_pos h

theorem Timer.tick_of_not_last {c : Config} {t : Timer} (h : t.presc ≠ c.clkPerUs - 1) :
    t.tick c = { t with presc := t.presc + 1 } :=
  if_neg h

/-! ## The timer in a step -/

/-- All a step does to the timer, whatever it performs: reset, or one edge. -/
theorem step_timer {s t : State} (h : step s = .next t) :
    t.timer = if s.pins.rst then Timer.atReset else s.timer.tick s.cfg := by
  cases hr : s.pins.rst with
  | true =>
    rw [step_of_rst hr] at h
    injection h with h
    rw [← h, State.resetEdge_timer, if_pos rfl]
  | false =>
    obtain ⟨_, q, rfl, _⟩ := step_next hr h
    rw [State.advance_timer, State.clocked_timer, if_neg Bool.false_ne_true]

theorem step_timer_of_no_rst {s t : State} (hr : s.pins.rst = false) (h : step s = .next t) :
    t.timer = s.timer.tick s.cfg := by
  rw [step_timer h, hr, if_neg Bool.false_ne_true]

/-- Settles O30: what a step does to the timer names the timer, the configuration and `rst` and nothing
else. -/
theorem timerHasNoControl : Obligations.TimerHasNoControl := by
  unfold Obligations.TimerHasNoControl
  refine ⟨fun s s' t t' htimer hcfg hrst h h' => ?_, fun s t hr h => ?_⟩
  · rw [step_timer h, step_timer h', htimer, hcfg, hrst]
  · rw [step_timer h, hr, if_pos rfl]
    rfl

/-! ## The timer in closed form -/

/-- The timer `k` cycles after a reset (R217). -/
def Timer.atCycle (c : Config) (k : Nat) : Timer :=
  { presc := k % c.clkPerUs, us := BitVec.ofNat 32 (k / c.clkPerUs) }

theorem Timer.atCycle_zero (c : Config) : Timer.atCycle c 0 = { presc := 0, us := 0 } := by
  rw [Timer.atCycle, Nat.zero_mod, Nat.zero_div]
  rfl

/-- Cycle `r` of microsecond `q`. -/
theorem Timer.atCycle_mul_add {c : Config} {r : Nat} (q : Nat) (hr : r < c.clkPerUs) :
    Timer.atCycle c (c.clkPerUs * q + r) = { presc := r, us := BitVec.ofNat 32 q } := by
  rw [Timer.atCycle, Nat.mul_add_mod, Nat.mod_eq_of_lt hr, Nat.mul_add_div (by omega), Nat.div_eq_of_lt hr,
    Nat.add_zero]

/-- An edge leads to the next cycle of the same microsecond, or from its last cycle to the first of the
next. -/
theorem Timer.tick_atCycle {c : Config} (hc : 1 ≤ c.clkPerUs) (k : Nat) :
    (Timer.atCycle c k).tick c = Timer.atCycle c (k + 1) := by
  obtain ⟨q, r, hr, rfl⟩ : ∃ q r, r < c.clkPerUs ∧ k = c.clkPerUs * q + r :=
    ⟨k / c.clkPerUs, k % c.clkPerUs, Nat.mod_lt k hc, (Nat.div_add_mod k c.clkPerUs).symm⟩
  rw [Timer.atCycle_mul_add q hr]
  by_cases hlast : r = c.clkPerUs - 1
  · have hnext : c.clkPerUs * q + r + 1 = c.clkPerUs * (q + 1) + 0 := by rw [Nat.mul_add]; omega
    rw [Timer.tick_of_last hlast, hnext, Timer.atCycle_mul_add (q + 1) hc, BitVec.ofNat_add]
    rfl
  · rw [Timer.tick_of_not_last hlast, Nat.add_assoc, Timer.atCycle_mul_add q (by omega)]

/-- A run without reset from a timer at 0 counts its cycles. -/
theorem after_timer {s t : State} {k : Nat} (hc : 1 ≤ s.cfg.clkPerUs)
    (h0 : s.timer = { presc := 0, us := 0 }) (hrst : s.noResetFor k) (h : s.after k = .next t) :
    t.cfg = s.cfg ∧ t.timer = Timer.atCycle s.cfg k := by
  induction k generalizing t with
  | zero =>
    injection h with h
    subst h
    exact ⟨rfl, h0.trans (Timer.atCycle_zero s.cfg).symm⟩
  | succ k ih =>
    obtain ⟨u, hu, hstep⟩ := State.after_succ.mp h
    obtain ⟨hcfg, htimer⟩ := ih (State.noResetFor_mono hrst (Nat.le_succ k)) hu
    have hr : u.pins.rst = false := hrst k u (Nat.lt_succ_self k) (State.inCycle_of_after hu)
    refine ⟨(step_cfg hstep).trans hcfg, ?_⟩
    rw [step_timer_of_no_rst hr hstep, htimer, hcfg, Timer.tick_atCycle hc]

/-- Settles O29: the rule is one edge of the timer, and the closed form holds by induction over the run. -/
theorem timerCountsMicroseconds : Obligations.TimerCountsMicroseconds := by
  unfold Obligations.TimerCountsMicroseconds
  refine ⟨fun s t hr h => ?_, fun s t k hc h0 hrst h => (after_timer hc h0 hrst h).2⟩
  rw [step_timer_of_no_rst hr h]
  exact ⟨Timer.tick_of_last, Timer.tick_of_not_last⟩

end Sys2Proof.Machine
end

section
/-! The waiting steps of the sequencer (43_game_fsm.md R236, R246, R250, R255, R259, R267, R276): steps that
drive nothing but, in RW_DRAW, the latch, and complete on a deadline, a flag or `rnd_val`. -/

namespace Sys2Proof.Machine

/-! ## Waits for a deadline (R218) -/

/-- A step that drives nothing and completes when `d` microseconds have passed since `t₀`. -/
theorem stepEdge_deadline {u : StepCode} {t₀ : Micros} {d : Nat} {q : Seq} {s : State}
    (hd : stepDrives u s = {}) (h : s.led.readsInRange s.cfg = true) :
    ∃ t, stepEdge u (deadline s.timer.us t₀ d) q s = .next t ∧ QuietEdge s t ∧
      t.seq = if d ≤ (s.timer.us - t₀).toNat then q else s.seq := by
  rw [← ite_deadline]
  exact stepEdge_quiet hd h

/-- Settles O43: each of the three steps is a wait for its deadline. -/
theorem fixedWaitsCompleteAtDeadline : Obligations.FixedWaitsCompleteAtDeadline := by
  unfold Obligations.FixedWaitsCompleteAtDeadline
  intro s hread
  simp only [List.forall_mem_cons]
  refine ⟨?cdOn, ?rwHold, ?resHold, List.forall_mem_nil _⟩
  case cdOn => exact stepEdge_deadline (u := 10) rfl hread
  case rwHold => exact stepEdge_deadline (u := 24) rfl hread
  case resHold => exact stepEdge_deadline (u := 30) rfl hread

/-- Settles O44: CD_OFF is a wait for its deadline, and `nextSlot` is the order the statement writes out. -/
theorem countdownOffPassesSlot : Obligations.CountdownOffPassesSlot := by
  unfold Obligations.CountdownOffPassesSlot
  intro s hread
  obtain ⟨t, hexec, hquiet, hseq⟩ := stepEdge_deadline (u := 14) (t₀ := s.seq.t0) (d := countdownOffUs)
    (q := { s.seq with slot := nextSlot s.seq.slot, upc := 6 }) rfl hread
  refine ⟨t, hexec, hquiet, hseq.trans ?_⟩
  cases s.seq.slot <;> rfl

/-- Settles O37: IDLE_WAIT completes on the chord or the deadline, and its successor asks for the chord
first. -/
theorem idleWaitChordWins : Obligations.IdleWaitChordWins := by
  unfold Obligations.IdleWaitChordWins
  intro s hread
  obtain ⟨t, hexec, hquiet, hseq⟩ := stepEdge_quiet (u := 3)
    (done := s.latch.outChord || deadline s.timer.us s.seq.t0 idleRefreshUs)
    (q := { s.seq with upc := if s.latch.outChord then 4 else 2 }) rfl hread
  refine ⟨t, hexec, hquiet, hseq.trans ?_⟩
  rw [Latch.outChord]
  cases s.latch.chord with
  | true => rfl
  | false => exact ite_deadline _ _ _ _ _

/-! ## The draw of the target (R255) -/

theorem exec_stepRwDraw_of_colour {s : State} {c : Colour} (h : colourOf s.pins.rnd = some c) :
    exec .stepRwDraw s =
      stepEdge 15 true { s.seq with target := c, snapshot := s.seq.score, upc := 16 } s := by
  change execStepRwDraw s = _
  rw [execStepRwDraw, h]

theorem exec_stepRwDraw_of_no_colour {s : State} (h : colourOf s.pins.rnd = none) :
    exec .stepRwDraw s = stepEdge 15 false s.seq s := by
  change execStepRwDraw s = _
  rw [execStepRwDraw, h]

/-- RW_DRAW drives the latch and nothing else. -/
theorem stepDrives_rwDraw (s : State) : stepDrives 15 s = { latch := latchDrive 15 s } := rfl

theorem latchDrive_rwDraw (s : State) :
    latchDrive 15 s = if s.cfg.clearFlagsAtWindow ∧ s.pins.rnd.toNat ≤ 2 then 0b01 else 0b00 := rfl

/-- The codes of the colours are 0 to 2. -/
theorem toNat_le_two_of_colourOf {v : BitVec 2} {c : Colour} (h : colourOf v = some c) : v.toNat ≤ 2 := by
  revert v c
  decide

/-- RW_DRAW completes at every colour. -/
theorem exec_stepRwDraw_takes {s : State} {c : Colour} (hread : s.led.readsInRange s.cfg = true)
    (h : colourOf s.pins.rnd = some c) :
    ∃ t, exec .stepRwDraw s = .next t ∧ NoLedCommand s t ∧ t.collab = s.collab ∧
      EdgeRest (if s.cfg.clearFlagsAtWindow then 0b01 else 0b00) s t ∧
      t.seq = { s.seq with target := c, snapshot := s.seq.score, upc := 16 } := by
  rw [exec_stepRwDraw_of_colour h]
  obtain ⟨t, hexec, hrest, hled, hseq, hcollab⟩ := stepEdge_noLed (u := 15) (done := true)
    (q := { s.seq with target := c, snapshot := s.seq.score, upc := 16 }) rfl hread
  rw [latchDrive_rwDraw] at hrest
  simp only [toNat_le_two_of_colourOf h, and_true] at hrest
  rw [stepDrives_rwDraw, Collab.cycle_none] at hcollab
  exact ⟨t, hexec, hled, hcollab, hrest, hseq⟩

/-- Settles O45: 0, 1 and 2 are the codes of the colours; 3 is none, so the step waits and leaves the latch
alone. -/
theorem drawTakesTargetAndSnapshot : Obligations.DrawTakesTargetAndSnapshot := by
  unfold Obligations.DrawTakesTargetAndSnapshot
  intro s hread
  refine ⟨fun x hx hrnd => exec_stepRwDraw_takes hread ?_, fun hrnd => ?_⟩
  · have hcodes : ∀ x ∈ [(0#2, Colour.red), (1#2, .green), (2#2, .blue)], colourOf x.1 = some x.2 := by
      decide
    rw [hrnd]
    exact hcodes x hx
  · have hnone : colourOf s.pins.rnd = none := by rw [hrnd]; rfl
    have hdrives : stepDrives 15 s = {} := by
      rw [stepDrives_rwDraw, latchDrive_rwDraw, hrnd, if_neg (fun h => absurd h.2 (by decide))]
    rw [exec_stepRwDraw_of_no_colour hnone]
    exact stepEdge_quiet (done := false) (q := s.seq) hdrives hread

/-! ## The reaction window (R259, R260) -/

theorem exec_stepRwPoll_late {s : State} (h : 700000 ≤ (s.timer.us - s.seq.tE).toNat) :
    exec .stepRwPoll s = stepEdge 19 true { s.seq with upc := 26 } s :=
  if_pos ((deadline_iff _ _ _).mpr h)

theorem exec_stepRwPoll_in_window {s : State} (h : ¬ 700000 ≤ (s.timer.us - s.seq.tE).toNat) :
    exec .stepRwPoll s = stepEdge 19 s.hit
      { s.seq with score := s.seq.score + pointsAt (elapsed s.timer.us s.seq.tE), upc := 20 } s :=
  if_neg (mt (deadline_iff _ _ _).mp h)

/-- Settles O46: past the deadline the step leaves without a look at the flags; before it, it completes on the
flag of the target. -/
theorem pollScoresHitBeforeDeadline : Obligations.PollScoresHitBeforeDeadline := by
  unfold Obligations.PollScoresHitBeforeDeadline
  intro s hread e hit
  have hhit : s.hit = hit := by
    simp only [hit, State.hit, Latch.outA, Latch.outB, Latch.outChord]
    cases s.seq.target <;> cases s.cfg.latchMode <;> rfl
  by_cases hlate : 700000 ≤ e
  · rw [exec_stepRwPoll_late hlate, if_pos hlate]
    exact stepEdge_quiet (u := 19) (done := true) rfl hread
  · rw [exec_stepRwPoll_in_window hlate, if_neg hlate]
    obtain ⟨t, hexec, hquiet, hseq⟩ := stepEdge_quiet (u := 19) (done := s.hit)
      (q := { s.seq with score := s.seq.score + pointsAt (elapsed s.timer.us s.seq.tE), upc := 20 }) rfl hread
    rw [hhit] at hseq
    exact ⟨t, hexec, hquiet, hseq⟩

end Sys2Proof.Machine
end

section
/-! The decoder and the encoder (30_encoding.md): decoding gives back what was encoded, port by port, and a word
that decodes is the encoding of the well-formed instruction it decodes to. -/

namespace Sys2Proof

/-! ## LED command words (R88 to R93) -/

/-- A word without operands is its opcode above zeros. -/
theorem lcmd_eq_of_op {w : LedWord} {op : BitVec 4} (hop : lcmdOp w = op) (hrsv : lcmdRsv w = 0)
    (hoperands : lcmdOperands w = 0) : op ++ 0#4 ++ 0#40 = w := by
  have h := lcmd_fields_append w
  rwa [hop, hrsv, hoperands] at h

/-- A word with SET_PIXEL's opcode is the SET_PIXEL word of its operand fields. -/
theorem setPixelWord_of_fields {w : LedWord} (hop : lcmdOp w = 2) (hrsv : lcmdRsv w = 0) :
    setPixelWord (lcmdIdx w) (lcmdR w) (lcmdG w) (lcmdB w) = w := by
  have hhead : 0x20#8 = w.extractLsb' 40 8 := by
    have hcut : lcmdOp w ++ lcmdRsv w = w.extractLsb' 40 8 :=
      BitVec.extractLsb'_append_extractLsb'_eq_extractLsb' rfl
    rw [← hcut, hop, hrsv]
    rfl
  unfold setPixelWord lcmdIdx lcmdR lcmdG lcmdB
  rw [hhead, BitVec.extractLsb'_append_extractLsb'_eq_extractLsb' (show 40 = 24 + 16 from rfl),
    BitVec.extractLsb'_append_extractLsb'_eq_extractLsb' (show 24 = 16 + 8 from rfl),
    BitVec.extractLsb'_append_extractLsb'_eq_extractLsb' (show 16 = 8 + 8 from rfl),
    BitVec.extractLsb'_append_extractLsb'_eq_extractLsb' (show 8 = 0 + 8 from rfl),
    BitVec.extractLsb'_eq_self]

/-- The row a word selects encodes to that word; the illegal row keeps it whole. -/
theorem encode_decodeLcmdWord (w : LedWord) : encode (decodeLcmdWord w) = .port (.lcmd w) := by
  rw [decodeLcmdWord, decodeLcmd_eq_of_fields]
  split_ifs with hnop hinit hset hclear hflush
  · obtain ⟨hop, hrsv, hoperands⟩ := hnop
    rw [← lcmd_eq_of_op hop hrsv hoperands]; rfl
  · obtain ⟨hop, hrsv, hoperands⟩ := hinit
    rw [← lcmd_eq_of_op hop hrsv hoperands]; rfl
  · obtain ⟨hop, hrsv⟩ := hset
    simp only [encode, setPixelWord_of_fields hop hrsv]
  · obtain ⟨hop, hrsv, hoperands⟩ := hclear
    rw [← lcmd_eq_of_op hop hrsv hoperands]; rfl
  · obtain ⟨hop, hrsv, hoperands⟩ := hflush
    rw [← lcmd_eq_of_op hop hrsv hoperands]; rfl
  · rfl

theorem wellFormed_decodeLcmdWord (w : LedWord) : (decodeLcmdWord w).wellFormed = true := by
  have hillegal : decodeLcmd w = .illegal → lcmdWf w = false := fun h => by
    rw [← Bool.not_eq_true, ← decodeLcmd_ne_illegal_iff_lcmdWf]
    exact not_not_intro h
  rw [decodeLcmdWord]
  cases h : decodeLcmd w with
  | illegal => simp only [Instr.wellFormed, hillegal h, Bool.not_false]
  | nop | init | setPixel idx r g b | clear | flush => rfl

/-! ## Latch operations (R97) -/

theorem encode_decodeLatch (w : LatchWord) :
    encode (decodeLatch w) = .port (.latch w) ∧ (decodeLatch w).wellFormed = true := by
  revert w
  decide

/-! ## Tone, display and status-LED words (R99 to R102, R109) -/

theorem toneWord_request (f d : BitVec 16) (v : BitVec 8) :
    (toneWord f d v).extractLsb' 8 32 = f ++ d :=
  BitVec.extractLsb'_append_eq_left

/-- The percentages of a status-LED word are its three fields. -/
theorem sledWord_fields (r g b : BitVec 7) :
    (sledWord r g b).extractLsb' 14 7 = r ∧ (sledWord r g b).extractLsb' 7 7 = g ∧
      (sledWord r g b).extractLsb' 0 7 = b := by
  have hr := r.isLt
  have hg := g.isLt
  have hb := b.isLt
  refine ⟨BitVec.eq_of_toNat_eq ?_, BitVec.eq_of_toNat_eq ?_, BitVec.eq_of_toNat_eq ?_⟩ <;>
  · rw [sledWord, BitVec.extractLsb'_toNat, toNat_append_add, toNat_append_add, Nat.shiftRight_eq_div_pow]
    omega

theorem sledWord_of_fields (w : SledWord) :
    sledWord (w.extractLsb' 14 7) (w.extractLsb' 7 7) (w.extractLsb' 0 7) = w := by
  rw [sledWord, BitVec.extractLsb'_append_extractLsb'_eq_extractLsb' (show 14 = 7 + 7 from rfl),
    BitVec.extractLsb'_append_extractLsb'_eq_extractLsb' (show 7 = 0 + 7 from rfl),
    BitVec.extractLsb'_eq_self]

theorem percentsOk_iff (r g b : BitVec 7) :
    percentsOk r g b = true ↔ r.toNat ≤ 100 ∧ g.toNat ≤ 100 ∧ b.toNat ≤ 100 := by
  simp only [percentsOk, Bool.and_eq_true, decide_eq_true_eq, and_assoc]

/-- A status-LED word decodes exactly when its percentages are at most 100. -/
theorem decodeSled_sledWord (r g b : BitVec 7) :
    decodeSled (sledWord r g b) = if percentsOk r g b then .ok (.sled r g b) else .error .sledPercent := by
  obtain ⟨hr, hg, hb⟩ := sledWord_fields r g b
  rw [decodeSled, hr, hg, hb]

/-! ## The step table (R105, R107) -/

/-- The step table holds at each code the step of that code. -/
theorem encode_decodeStep (u : StepCode) :
    encode (decodeStep u) = .step u ∧ (decodeStep u).wellFormed = true := by
  revert u
  decide

end Sys2Proof

namespace Sys2Proof.Machine

/-! ## Round trips -/

theorem encode_tone_of_request {w : ToneWord} {f d : BitVec 16} (h : w.extractLsb' 8 32 = f ++ d) :
    Encoding.port (.tone (toneWord f d (w.extractLsb' 0 8))) = .port (.tone w) := by
  rw [toneWord_of_request h]

theorem encode_disp_of_screen {w : DispWord} {c : BitVec 4} (h : w.extractLsb' 16 4 = c) :
    Encoding.port (.disp (dispWord c (w.extractLsb' 0 16))) = .port (.disp w) := by
  rw [dispWord_of_screen h]

/-- Settles O1: an instruction of the LED, tone, display and status-LED ports is read back from its fields, the
reserved LED row and the percentages by their well-formedness; a latch row or a step is one fixed word. -/
theorem decodeOfEncode : Obligations.DecodeOfEncode := by
  unfold Obligations.DecodeOfEncode
  intro i hwf
  cases i
  case setPixel idx r g b =>
    simp only [encode, decode, decodeLcmdWord, decodeLcmd_setPixelWord]
  case lcmdReserved w =>
    exact decode_lcmd_of_not_wf (by simpa [Instr.wellFormed] using hwf)
  case latchReserved low => cases low <;> rfl
  case toneRwT1 | toneRwT2 | toneRwT3 | toneResT1 | toneResT2 =>
    simp only [encode, decode, decodeTone, toneWord_request, toneWord_fields]
    rfl
  case dispPrompt score | dispLegend score | dispVerdictLow score | dispVerdictMed score
      | dispVerdictHigh score =>
    simp only [encode, decode, decodeDisp, dispWord_fields]
    rfl
  case sled r g b =>
    exact (decodeSled_sledWord r g b).trans (if_pos hwf)
  all_goals rfl

/-- Settles O2: each port's decoder reads every bit of the word into the instruction it answers. -/
theorem encodeOfDecode : Obligations.EncodeOfDecode := by
  unfold Obligations.EncodeOfDecode
  intro e i hd
  match e with
  | .port (.lcmd w) =>
    injection hd with hd
    rw [← hd]
    exact ⟨encode_decodeLcmdWord w, wellFormed_decodeLcmdWord w⟩
  | .port (.latch w) =>
    injection hd with hd
    rw [← hd]
    exact encode_decodeLatch w
  | .port (.tone w) =>
    simp only [decode, decodeTone] at hd
    split_ifs at hd with h1 h2 h3 h4 h5 <;> injection hd with hd <;> subst hd
    · exact ⟨encode_tone_of_request (f := 800) (d := 100) h1, rfl⟩
    · exact ⟨encode_tone_of_request (f := 1000) (d := 100) h2, rfl⟩
    · exact ⟨encode_tone_of_request (f := 1200) (d := 100) h3, rfl⟩
    · exact ⟨encode_tone_of_request (f := 400) (d := 300) h4, rfl⟩
    · exact ⟨encode_tone_of_request (f := 300) (d := 300) h5, rfl⟩
  | .port (.disp w) =>
    simp only [decode, decodeDisp] at hd
    split_ifs at hd with h1 h2 h3 h4 h5 <;> injection hd with hd <;> subst hd
    · exact ⟨encode_disp_of_screen h1, rfl⟩
    · exact ⟨encode_disp_of_screen h2, rfl⟩
    · exact ⟨encode_disp_of_screen h3, rfl⟩
    · exact ⟨encode_disp_of_screen h4, rfl⟩
    · exact ⟨encode_disp_of_screen h5, rfl⟩
  | .port (.sled w) =>
    simp only [decode, decodeSled] at hd
    split_ifs at hd with hp
    injection hd with hd
    subst hd
    exact ⟨congrArg (fun v => Encoding.port (.sled v)) (sledWord_of_fields w), hp⟩
  | .step u =>
    injection hd with hd
    rw [← hd]
    exact encode_decodeStep u

/-- Settles O4: the decoder evaluates to the instruction on each of the eight words. -/
theorem specWordsDecode : Obligations.SpecWordsDecode := by
  unfold Obligations.SpecWordsDecode
  decide

end Sys2Proof.Machine
end

section
/-! The LED driver's commands, error bits and invariant (40_led_driver.md R121 to R141, 10_state.md R24 to R28):
what each accepted command leaves, and that no cycle, with or without a command, breaks the invariant. -/

namespace Sys2Proof.Machine

/-! ## INIT, CLEAR, SET_PIXEL and FLUSH (R125, R126, R130, R134, R136) -/

theorem Led.run_init_claims {c : Config} {l : Led} (hst : l.st = .uninit) (hchan : c.ledChanAvail = true) :
    Led.run c .init l = { l with fb := Memory.fill c.pixels 0, st := .idle } := by
  simp [Led.run, Led.initCmd, hst, hchan]

theorem Led.run_init_fails {c : Config} {l : Led} (hst : l.st = .uninit) (hchan : c.ledChanAvail = false) :
    Led.run c .init l = l.raiseFatal := by
  simp [Led.run, Led.initCmd, hst, hchan]

theorem Led.run_init_idle {c : Config} {l : Led} (hst : l.st = .idle) :
    Led.run c .init l = { l with fb := Memory.fill c.pixels 0 } := by
  simp [Led.run, Led.initCmd, hst]

theorem Led.run_flush_starts {c : Config} {l : Led} (hst : l.st = .idle) :
    Led.run c .flush l = { l with st := .tx, pix := 0, bit := 23, cnt := 0 } := by
  simp [Led.run, Led.flushCmd, hst]

theorem exec_init (s : State) : exec .init s = clientEdge { led := some .init } s := rfl

/-- A client's LED command on an IDLE driver, by what the command makes of the driver. -/
theorem presentLed_idle {k : LedCmd} {l : Led} {s : State} (hst : s.led.st = .idle)
    (hrun : Led.run s.cfg k s.led = l) :
    ∃ t, clientEdge { led := some k } s = .next t ∧ t.seq = s.seq ∧ t.collab = s.collab ∧
      EdgeRest 0b00 s t ∧ t.led = l := by
  obtain ⟨t, he, hseq, hcollab, hrest, hled⟩ := presentLed_ready (k := k) ((Led.ready_iff _).mpr (.inr hst))
  exact ⟨t, he, hseq, hcollab, hrest, hled.trans hrun⟩

/-- A driver whose buffer was filled with black reads 0 below N and nothing from N on. -/
theorem Led.read_of_filled {c : Config} {l l' : Led} (h : l' = { l with fb := Memory.fill c.pixels 0 }) :
    l' = { l with fb := l'.fb } ∧ ∀ i, l'.fb.read i = if i < c.pixels then some 0x000000 else none := by
  subst h
  exact ⟨rfl, fun i => Memory.read_fill _ _ i⟩

/-- Settles O8: by the strap, INIT fills the buffer and enters IDLE, or raises NO_CHANNEL fatally. -/
theorem initClaimsChannelOrFails : Obligations.InitClaimsChannelOrFails := by
  unfold Obligations.InitClaimsChannelOrFails
  intro s hst
  obtain ⟨t, he, hseq, hcollab, hrest, hled⟩ :=
    presentLed_ready (k := .init) ((Led.ready_iff s.led).mpr (.inl hst))
  refine ⟨t, he, hseq, hcollab, hrest, fun hchan => ?_, fun hchan => ?_⟩
  · exact Led.read_of_filled (l := { s.led with st := .idle }) (hled.trans (Led.run_init_claims hst hchan))
  · exact hled.trans (Led.run_init_fails hst hchan)

/-- Settles O9: from IDLE the strap is not looked at; INIT fills the buffer. -/
theorem initAgainClearsBuffer : Obligations.InitAgainClearsBuffer := by
  unfold Obligations.InitAgainClearsBuffer
  intro s hst
  obtain ⟨t, he, hseq, hcollab, hrest, hled⟩ := presentLed_idle hst (Led.run_init_idle hst)
  exact ⟨t, he, hseq, hcollab, hrest, Led.read_of_filled hled⟩

/-- Settles O14: CLEAR fills the buffer. -/
theorem clearZeroesBuffer : Obligations.ClearZeroesBuffer := by
  unfold Obligations.ClearZeroesBuffer
  intro s hst
  obtain ⟨t, he, hseq, hcollab, hrest, hled⟩ := presentLed_idle hst (Led.run_clear_idle hst)
  exact ⟨t, he, hseq, hcollab, hrest, Led.read_of_filled hled⟩

/-- A driver that wrote one element reads it back, and every other index as before. -/
theorem Led.read_of_written {l l' : Led} {i : Nat} {v : Pixel} (h : l' = { l with fb := l.fb.write i v }) :
    l' = { l with fb := l'.fb } ∧ l'.fb.read i = some v ∧ ∀ a, a ≠ i → l'.fb.read a = l.fb.read a := by
  subst h
  exact ⟨rfl, Memory.read_write_same _ _ _, fun a ha => Memory.read_write_other _ _ ha⟩

/-- Settles O10: SET_PIXEL in range is one write of the buffer. -/
theorem setPixelWritesOneElement : Obligations.SetPixelWritesOneElement := by
  unfold Obligations.SetPixelWritesOneElement
  intro s idx r g b hst hidx
  obtain ⟨t, he, hseq, hcollab, hrest, hled⟩ :=
    presentLed_idle hst (Led.run_setPixel_in_range r g b hst hidx)
  exact ⟨t, he, hseq, hcollab, hrest, Led.read_of_written hled⟩

/-- Settles O15: FLUSH sets the serializer's registers and nothing else. -/
theorem flushStartsFrame : Obligations.FlushStartsFrame := by
  unfold Obligations.FlushStartsFrame
  intro s hst
  obtain ⟨t, he, hseq, hcollab, hrest, hled⟩ := presentLed_idle hst (Led.run_flush_starts hst)
  exact ⟨t, he, hseq, hcollab, hrest, hled, fun a => by rw [hled]⟩

/-! ## The busy port (R121) -/

/-- Settles O16: each of the six LED rows is one command on a port that is not ready. -/
theorem commandsHeldWhileBusy : Obligations.CommandsHeldWhileBusy := by
  unfold Obligations.CommandsHeldWhileBusy
  intro s i hst hread hi
  have hready := Led.not_ready_of_busy hst
  have hcmd : ∃ k, exec i s = clientEdge { led := some k } s := by
    rcases hi with rfl | rfl | ⟨idx, r, g, b, rfl⟩ | rfl | rfl | ⟨w, rfl⟩
    · exact ⟨_, exec_nop s⟩
    · exact ⟨_, exec_init s⟩
    · exact ⟨_, exec_setPixel idx r g b s⟩
    · exact ⟨_, exec_clear s⟩
    · exact ⟨_, exec_flush s⟩
    · exact ⟨_, exec_lcmdReserved w s⟩
  obtain ⟨k, hexec⟩ := hcmd
  rw [hexec]
  exact ⟨presentLed_not_ready hready hread, fun _ => hready⟩

/-- Settles O22: while a frame or its hold is in progress the port is not ready, and a driver without a command
keeps its buffer. -/
theorem noWriteDuringFrame : Obligations.NoWriteDuringFrame := by
  unfold Obligations.NoWriteDuringFrame
  intro s t hst hr h
  have hready : s.led.ready = false := Led.not_ready_of_busy (hst.imp_right .inl)
  rw [step_led hr h, Led.cycle_of_not_ready hready, Led.cycle_none_fb]

/-! ## What a cycle does to the driver -/

/-- All a cycle does: a ready driver runs the command presented, any other goes on without one. -/
theorem Led.cycle_cases (c : Config) (cmd : Option LedCmd) (l : Led) :
    (l.ready = true ∧ ∃ k, cmd = some k ∧ l.cycle c cmd = Led.run c k l) ∨ l.cycle c cmd = l.cycle c none := by
  cases cmd with
  | none => exact .inr rfl
  | some k =>
    cases hready : l.ready with
    | true => exact .inl ⟨rfl, k, rfl, Led.cycle_some_of_ready hready⟩
    | false => exact .inr (Led.cycle_of_not_ready hready)

/-- All an accepted command can leave of the driver `l`. -/
inductive Led.Outcome (c : Config) (l : Led) : Led → Prop
  | same : Outcome c l l
  | raised (e : LedError) (he : e ≠ .noChannel) : Outcome c l (l.raiseError e)
  | failed (hst : l.st = .uninit) : Outcome c l l.raiseFatal
  | filled : Outcome c l { l with fb := Memory.fill c.pixels 0, st := .idle }
  | written (hst : l.st = .idle) (i : Nat) (v : Pixel) (hi : i < c.pixels) :
      Outcome c l { l with fb := l.fb.write i v }
  | flushed (hst : l.st = .idle) : Outcome c l { l with st := .tx, pix := 0, bit := 23, cnt := 0 }

/-- A buffer filled in IDLE. -/
theorem Led.Outcome.filled_idle {c : Config} {l : Led} (hst : l.st = .idle) :
    Led.Outcome c l { l with fb := Memory.fill c.pixels 0 } := by
  have h := Led.Outcome.filled (c := c) (l := l)
  rwa [← hst] at h

/-- A command other than INIT and NOP raises NOT_INIT in UNINIT. -/
theorem Led.Outcome.notInit (c : Config) (l : Led) : Led.Outcome c l (l.raiseError .notInit) :=
  .raised .notInit nofun

theorem Led.run_outcome (c : Config) (k : LedCmd) {l : Led} (hready : l.ready = true) :
    Led.Outcome c l (Led.run c k l) := by
  have hst := (Led.ready_iff l).mp hready
  cases k with
  | nop => exact .same
  | illegal => exact .raised .illegal nofun
  | init =>
    rcases hst with hst | hst
    · cases hchan : c.ledChanAvail with
      | true => rw [Led.run_init_claims hst hchan]; exact .filled
      | false => rw [Led.run_init_fails hst hchan]; exact .failed hst
    · rw [Led.run_init_idle hst]; exact .filled_idle hst
  | setPixel idx r g b =>
    rcases hst with hst | hst
    · rw [Led.run_setPixel_uninit idx r g b hst]; exact .notInit c l
    · by_cases hidx : idx.toNat < c.pixels
      · rw [Led.run_setPixel_in_range r g b hst hidx]; exact .written hst _ _ hidx
      · rw [Led.run_setPixel_out_of_range r g b hst (Nat.not_lt.mp hidx)]; exact .raised .range nofun
  | clear =>
    rcases hst with hst | hst
    · rw [Led.run_clear_uninit hst]; exact .notInit c l
    · rw [Led.run_clear_idle hst]; exact .filled_idle hst
  | flush =>
    rcases hst with hst | hst
    · rw [Led.run_flush_uninit hst]; exact .notInit c l
    · rw [Led.run_flush_starts hst]; exact .flushed hst

/-! ## Error bits are sticky (R301) -/

theorem Led.raiseError_err_mono {l : Led} {j : Nat} (e : LedError) (h : l.err.getLsbD j = true) :
    (l.raiseError e).err.getLsbD j = true := by
  rw [Led.raiseError_err, BitVec.getLsbD_or, h, Bool.true_or]

theorem Led.Outcome.err_mono {c : Config} {l l' : Led} {j : Nat} (ho : Led.Outcome c l l')
    (h : l.err.getLsbD j = true) : l'.err.getLsbD j = true := by
  cases ho with
  | raised e he => exact Led.raiseError_err_mono e h
  | failed hst => exact Led.raiseError_err_mono .noChannel h
  | same | filled | written hst i v hi | flushed hst => exact h

theorem Led.cycle_err_mono {c : Config} {cmd : Option LedCmd} {l : Led} {j : Nat}
    (h : l.err.getLsbD j = true) : (l.cycle c cmd).err.getLsbD j = true := by
  rcases Led.cycle_cases c cmd l with ⟨hready, k, _, hrun⟩ | hnone
  · rw [hrun]
    exact (Led.run_outcome c k hready).err_mono h
  · rw [hnone, Led.cycle_none_err]
    exact h

/-- Settles O17: no cycle of the driver clears a bit of `err`. -/
theorem errorBitsSticky : Obligations.ErrorBitsSticky := by
  unfold Obligations.ErrorBitsSticky
  intro s t hr h k hk
  rw [step_led hr h]
  exact Led.cycle_err_mono hk

/-! ## The driver's invariant -/

/-- The driver is in a state in which every element has a value. -/
def Led.HasValues (l : Led) : Prop := l.st = .idle ∨ l.st = .tx ∨ l.st = .latch

theorem Led.HasValues.not_blank {l : Led} (h : l.HasValues) : ¬ (l.st = .uninit ∨ l.st = .fatal) := by
  rcases h with h | h | h <;> simp [h]

theorem Led.Inv.fatalBit_false {c : Config} {l : Led} (h : l.Inv c) (hst : l.st ≠ .fatal) :
    l.err.getLsbD 3 = false := by
  rw [← Bool.not_eq_true, h.fatalBit]
  exact hst

/-- The serializer reads a bit that exists. -/
theorem Led.Inv.readsInRange {c : Config} {l : Led} (h : l.Inv c) : l.readsInRange c = true := by
  rw [Led.readsInRange, decide_eq_true_eq]
  intro hst
  obtain ⟨hpix, hbit, _⟩ := h.inSymbol hst
  exact ⟨hpix, hbit⟩

theorem Led.Inv.atReset (c : Config) : Led.atReset.Inv c where
  wf := rfl
  bounded := fun _ h => nomatch h
  noValue := fun _ => rfl
  allValues := fun h => by rcases h with h | h | h <;> cases h
  inSymbol := fun h => nomatch h
  inHold := fun h => nomatch h
  fatalBit := by decide

/-- An error other than NO_CHANNEL. -/
theorem Led.Inv.raiseError {c : Config} {l : Led} {e : LedError} (h : l.Inv c) (he : e ≠ .noChannel) :
    (l.raiseError e).Inv c where
  wf := h.wf
  bounded := h.bounded
  noValue := h.noValue
  allValues := h.allValues
  inSymbol := h.inSymbol
  inHold := h.inHold
  fatalBit := by
    have hbit : (errorBit e).getLsbD 3 = false := by
      cases e with
      | noChannel => exact absurd rfl he
      | range | notInit | illegal => rfl
    rw [Led.raiseError_err, BitVec.getLsbD_or, hbit, Bool.or_false]
    exact h.fatalBit

/-- The failed claim: the buffer has no value in UNINIT and keeps none in FATAL. -/
theorem Led.Inv.raiseFatal {c : Config} {l : Led} (h : l.Inv c) (hst : l.st = .uninit) :
    l.raiseFatal.Inv c where
  wf := h.wf
  bounded := h.bounded
  noValue := fun _ => h.noValue (.inl hst)
  allValues := fun hs => by rcases hs with hs | hs | hs <;> cases hs
  inSymbol := fun hs => nomatch hs
  inHold := fun hs => nomatch hs
  fatalBit := by simp [errorBit]

/-- The buffer filled, the driver in IDLE. -/
theorem Led.Inv.filled {c : Config} {l : Led} (h : l.Inv c) (hst : l.st ≠ .fatal) :
    Led.Inv c { l with fb := Memory.fill c.pixels 0, st := .idle } where
  wf := Memory.wf_fill _ _
  bounded := fun i hi => by
    rw [Memory.read_fill] at hi
    by_contra hlt
    rw [if_neg hlt] at hi
    cases hi
  noValue := fun hs => absurd hs (Led.HasValues.not_blank (.inl rfl))
  allValues := fun _ i hi => by rw [Memory.read_fill, if_pos hi]; rfl
  inSymbol := fun hs => nomatch hs
  inHold := fun hs => nomatch hs
  fatalBit := ⟨fun hb => (nomatch (h.fatalBit_false hst).symm.trans hb), fun hs => (nomatch hs)⟩

/-- One element of an IDLE driver written. -/
theorem Led.Inv.written {c : Config} {l : Led} {i : Nat} (h : l.Inv c) (hst : l.st = .idle)
    (hi : i < c.pixels) (v : Pixel) : Led.Inv c { l with fb := l.fb.write i v } where
  wf := Memory.wf_write _ _ _ h.wf
  bounded := fun j hj => by
    rw [Memory.read_write] at hj
    split at hj
    · next heq => rw [heq]; exact hi
    · exact h.bounded j hj
  noValue := fun hs => absurd hs (Led.HasValues.not_blank (.inl hst))
  allValues := fun hs j hj => by
    rw [Memory.read_write]
    split
    · rfl
    · exact h.allValues hs j hj
  inSymbol := h.inSymbol
  inHold := h.inHold
  fatalBit := h.fatalBit

/-- The serializer moves: the buffer and the errors stay, and the counters are in their ranges. -/
theorem Led.Inv.serialized {c : Config} {l l' : Led} (h : l.Inv c) (hst : l.HasValues) (hst' : l'.HasValues)
    (hfb : l'.fb = l.fb) (herr : l'.err = l.err)
    (htx : l'.st = .tx → l'.pix.toNat < c.pixels ∧ l'.bit.toNat < 24 ∧ l'.cnt.toNat < c.symCycles)
    (hhold : l'.st = .latch → l'.cnt.toNat < c.resetCycles) : l'.Inv c where
  wf := hfb ▸ h.wf
  bounded := hfb ▸ h.bounded
  noValue := fun hs => absurd hs hst'.not_blank
  allValues := fun _ => hfb ▸ h.allValues hst
  inSymbol := htx
  inHold := hhold
  fatalBit := by
    rw [herr, h.fatalBit_false fun hs => hst.not_blank (.inr hs)]
    exact ⟨fun hb => (nomatch hb), fun hs => absurd (.inr hs) hst'.not_blank⟩

/-- Every outcome of a command on a ready driver meets the invariant. -/
theorem Led.Inv.outcome {c : Config} {l l' : Led} (hc : c.Valid) (h : l.Inv c) (hready : l.ready = true)
    (ho : Led.Outcome c l l') : l'.Inv c := by
  obtain ⟨⟨hpixels, _⟩, _, _, _, _, ⟨hsym, _⟩, _⟩ := hc
  cases ho with
  | same => exact h
  | raised e he => exact h.raiseError he
  | failed hst => exact h.raiseFatal hst
  | filled =>
    refine h.filled fun hst => ?_
    simp [Led.ready, hst] at hready
  | written hst i v hi => exact h.written hst hi v
  | flushed hst =>
    have hcnt : (0 : BitVec 32).toNat < c.symCycles := Nat.lt_of_lt_of_le (by decide) hsym
    exact h.serialized (.inl hst) (.inr (.inl rfl)) rfl rfl
      (fun _ => ⟨hpixels, (by decide : (23#5).toNat < 24), hcnt⟩) (fun hs => nomatch hs)

/-- A counter below its bound and not at its last value counts on without a wrap. -/
theorem cnt_succ_lt {cnt : BitVec 32} {n : Nat} (hlt : cnt.toNat < n) (hne : cnt.toNat ≠ n - 1)
    (hn : n ≤ 2 ^ 32) : (cnt + 1).toNat < n := by
  rw [BitVec.toNat_add, Nat.mod_eq_of_lt (by simp; omega)]
  simp
  omega

theorem Led.Inv.txCycle {c : Config} {l : Led} (hc : c.Valid) (h : l.Inv c) (hst : l.st = .tx) :
    (l.txCycle c).Inv c := by
  obtain ⟨⟨_, hpixels⟩, _, _, _, _, ⟨hsym, hsym'⟩, _, ⟨hreset, _⟩, _⟩ := hc
  obtain ⟨hpix, hbit, hcnt⟩ := h.inSymbol hst
  have hvalues : l.HasValues := .inr (.inl hst)
  by_cases hlast : l.cnt.toNat = c.symCycles - 1
  · by_cases hbit0 : l.bit = 0
    · by_cases hend : l.pix.toNat = c.pixels - 1
      · rw [Led.txCycle_frame_end hlast hbit0 hend]
        exact h.serialized hvalues (.inr (.inr rfl)) rfl rfl (fun hs => nomatch hs) (fun _ => hreset)
      · rw [Led.txCycle_next_element hlast hbit0 hend]
        refine h.serialized hvalues hvalues rfl rfl (fun _ => ⟨?_, (by decide : (23#5).toNat < 24), ?_⟩)
          (fun hs => nomatch hst.symm.trans hs)
        · simp only [BitVec.toNat_add, BitVec.ofNat_eq_ofNat, BitVec.toNat_ofNat]
          omega
        · exact Nat.lt_of_lt_of_le (by decide : (0 : BitVec 32).toNat < 3) hsym
    · rw [Led.txCycle_next_bit hlast hbit0]
      refine h.serialized hvalues hvalues rfl rfl (fun _ => ⟨hpix, ?_, ?_⟩)
        (fun hs => nomatch hst.symm.trans hs)
      · have hpos : l.bit.toNat ≠ 0 := fun h0 => hbit0 (BitVec.eq_of_toNat_eq h0)
        simp only [BitVec.toNat_sub, BitVec.ofNat_eq_ofNat, BitVec.toNat_ofNat]
        omega
      · exact Nat.lt_of_lt_of_le (by decide : (0 : BitVec 32).toNat < 3) hsym
  · rw [Led.txCycle_within_symbol hlast]
    exact h.serialized hvalues hvalues rfl rfl (fun _ => ⟨hpix, hbit, cnt_succ_lt hcnt hlast hsym'⟩)
      (fun hs => nomatch hst.symm.trans hs)

theorem Led.Inv.latchCycle {c : Config} {l : Led} (hc : c.Valid) (h : l.Inv c) (hst : l.st = .latch) :
    (l.latchCycle c).Inv c := by
  obtain ⟨_, _, _, _, _, _, _, ⟨_, hreset⟩, _⟩ := hc
  have hvalues : l.HasValues := .inr (.inr hst)
  rw [Led.latchCycle]
  split
  · exact h.serialized hvalues (.inl rfl) rfl rfl (fun hs => nomatch hs) (fun hs => nomatch hs)
  · next hlast =>
    exact h.serialized hvalues hvalues rfl rfl (fun hs => nomatch hst.symm.trans hs)
      (fun _ => cnt_succ_lt (h.inHold hst) hlast hreset)

/-- Every cycle of the driver, whatever is presented, keeps its invariant. -/
theorem Led.Inv.cycle {c : Config} {l : Led} (cmd : Option LedCmd) (hc : c.Valid) (h : l.Inv c) :
    (l.cycle c cmd).Inv c := by
  rcases Led.cycle_cases c cmd l with ⟨hready, k, _, hrun⟩ | hnone
  · rw [hrun]
    exact h.outcome hc hready (Led.run_outcome c k hready)
  · rw [hnone]
    cases hst : l.st with
    | tx => rw [Led.cycle_tx hst]; exact h.txCycle hc hst
    | latch => rw [Led.cycle_latch hst]; exact h.latchCycle hc hst
    | fatal => rw [Led.cycle_fatal hst]; exact h
    | uninit => rw [Led.cycle_none_of_ready ((Led.ready_iff l).mpr (.inl hst))]; exact h
    | idle => rw [Led.cycle_none_of_ready ((Led.ready_iff l).mpr (.inr hst))]; exact h

end Sys2Proof.Machine
end

section
/-! The input latch (41_input_latch.md R166 to R176): a cycle that clears and one that does not, what a cycle does
on either button line, the latency of a press, a button held through reset, and the flag invariants. -/

namespace Sys2Proof.Machine

/-! ## The latch in a step -/

/-- All a step without reset does to the latch: one cycle with the operation of the latch port. -/
theorem step_latch {s t : State} (hr : s.pins.rst = false) (h : step s = .next t) :
    t.latch = s.latch.cycle s.cfg s.latchPort s.sampleA s.sampleB := by
  obtain ⟨_, q, rfl, _⟩ := step_next hr h
  rfl

theorem clears_iff (op : LatchWord) : clears op = true ↔ op = 0b01 := by
  rw [clears, decide_eq_true_eq]
  rfl

/-! ## Reading and clearing (R174 to R176) -/

/-- A cycle that does not clear only sets FLAG and CHORD, and drops HELD at a release edge. -/
theorem Latch.cycle_of_not_clears {c : Config} {op : LatchWord} (h : clears op = false) (sA sB : Bool)
    (l : Latch) :
    l.cycle c op sA sB =
      { syA := shiftChain c sA l.syA, syB := shiftChain c sB l.syB,
        prevA := lineLevel c l.syA, prevB := lineLevel c l.syB, warm := min (l.warm + 1) (c.syncStages + 1),
        flagA := l.riseA c || l.flagA, flagB := l.riseB c || l.flagB,
        heldA := l.riseA c || (l.heldA && !l.fallA c), heldB := l.riseB c || (l.heldB && !l.fallB c),
        chord := ((l.riseA c || (l.heldA && !l.fallA c)) && (l.riseB c || (l.heldB && !l.fallB c))) ||
          l.chord } := by
  simp only [Latch.cycle, nextFlag, nextHeld, nextChord, h, Bool.not_false, Bool.and_true]

/-- CLEAR_ALL leaves what the assertion edges of its cycle set (R173). -/
theorem Latch.cycle_clear (c : Config) (sA sB : Bool) (l : Latch) :
    l.cycle c 0b01 sA sB =
      { syA := shiftChain c sA l.syA, syB := shiftChain c sB l.syB,
        prevA := lineLevel c l.syA, prevB := lineLevel c l.syB, warm := min (l.warm + 1) (c.syncStages + 1),
        flagA := l.riseA c, flagB := l.riseB c, heldA := l.riseA c, heldB := l.riseB c,
        chord := l.riseA c && l.riseB c } := by
  have h : clears 0b01 = true := rfl
  simp only [Latch.cycle, nextFlag, nextHeld, nextChord, h, Bool.not_true, Bool.and_false, Bool.false_and,
    Bool.or_false]

/-- The bits of the read word (30_encoding.md R98). -/
theorem State.latchRead_bits (s : State) :
    s.latchRead.getLsbD 0 = s.latch.outA s.cfg ∧ s.latchRead.getLsbD 1 = s.latch.outB s.cfg ∧
      s.latchRead.getLsbD 2 = s.latch.outChord := by
  rw [State.latchRead]
  cases s.latch.outA s.cfg <;> cases s.latch.outB s.cfg <;> cases s.latch.outChord <;> decide

/-- Settles O23: the outputs follow LATCH_MODE, and NONE and the reserved codes are cycles that do not clear. -/
theorem latchReadClearsNothing : Obligations.LatchReadClearsNothing := by
  unfold Obligations.LatchReadClearsNothing
  refine ⟨fun s => ?_, fun s i hread hi => ?_⟩
  · obtain ⟨h0, h1, h2⟩ := s.latchRead_bits
    rw [h0, h1, h2]
    refine ⟨fun hmode => ?_, fun hmode => ?_, rfl, rfl⟩ <;> simp only [Latch.outA, Latch.outB, hmode, and_self]
  · have hop : ∃ op, clears op = false ∧ exec i s = clientEdge { latch := op } s := by
      rcases hi with rfl | ⟨low, rfl⟩
      · exact ⟨0b00, rfl, rfl⟩
      · exact ⟨0b1#1 ++ BitVec.ofBool low, by cases low <;> rfl, rfl⟩
    obtain ⟨op, hclear, hexec⟩ := hop
    have hlatch : (s.clocked { latch := op } s.seq).latch = _ :=
      Latch.cycle_of_not_clears hclear s.sampleA s.sampleB s.latch
    refine ⟨_, hexec.trans (clockEdge_eq hread), rfl, noLedCommand_clocked _ _ rfl, Collab.cycle_none _ _ _ _,
      rfl, rfl, ?_⟩
    rw [hlatch]
    exact ⟨rfl, rfl, rfl, rfl, rfl, rfl, rfl, rfl, rfl, rfl⟩

/-- Settles O24: the cycle of CLEAR_ALL. -/
theorem clearAllKeepsOnlyNewEdges : Obligations.ClearAllKeepsOnlyNewEdges := by
  unfold Obligations.ClearAllKeepsOnlyNewEdges
  intro s hread
  have hexec : exec .latchClearAll s = clientEdge { latch := 0b01 } s := rfl
  have hlatch : (s.clocked { latch := 0b01 } s.seq).latch = _ :=
    Latch.cycle_clear s.cfg s.sampleA s.sampleB s.latch
  refine ⟨_, hexec.trans (clockEdge_eq hread), rfl, noLedCommand_clocked _ _ rfl, Collab.cycle_none _ _ _ _,
    rfl, rfl, ?_⟩
  rw [hlatch]
  exact ⟨rfl, rfl, rfl, rfl, rfl, rfl, rfl, rfl, rfl, rfl⟩

/-! ## One button line -/

/-- The synchronizer chain of a line. -/
def Latch.chain (l : Latch) : Line → List Bool
  | .a => l.syA
  | .b => l.syB

/-- `prev_x`. -/
def Latch.prev (l : Latch) : Line → Bool
  | .a => l.prevA
  | .b => l.prevB

/-- `FLAG_x`. -/
def Latch.flag (l : Latch) : Line → Bool
  | .a => l.flagA
  | .b => l.flagB

/-- `HELD_x`. -/
def Latch.held (l : Latch) : Line → Bool
  | .a => l.heldA
  | .b => l.heldB

/-- The sample of a line among the two of an edge. -/
def lineSample (sA sB : Bool) : Line → Bool
  | .a => sA
  | .b => sB

/-- `rise_x`. -/
def Latch.rise (c : Config) (l : Latch) (x : Line) : Bool :=
  riseOf (l.enabled c) (lineLevel c (l.chain x)) (l.prev x)

/-- `fall_x`. -/
def Latch.fall (c : Config) (l : Latch) (x : Line) : Bool :=
  fallOf (l.enabled c) (lineLevel c (l.chain x)) (l.prev x)

section
variable (c : Config) (op : LatchWord) (sA sB : Bool) (l : Latch) (x : Line)

theorem Latch.chain_cycle : (l.cycle c op sA sB).chain x = shiftChain c (lineSample sA sB x) (l.chain x) := by
  cases x <;> rfl

theorem Latch.prev_cycle : (l.cycle c op sA sB).prev x = lineLevel c (l.chain x) := by
  cases x <;> rfl

theorem Latch.flag_cycle :
    (l.cycle c op sA sB).flag x = nextFlag (l.rise c x) (clears op) (l.flag x) := by
  cases x <;> rfl

theorem Latch.held_cycle :
    (l.cycle c op sA sB).held x = nextHeld (l.rise c x) (l.fall c x) (clears op) (l.held x) := by
  cases x <;> rfl

theorem Latch.warm_cycle : (l.cycle c op sA sB).warm = min (l.warm + 1) (c.syncStages + 1) := rfl

theorem Latch.chord_cycle :
    (l.cycle c op sA sB).chord =
      nextChord ((l.cycle c op sA sB).held .a) ((l.cycle c op sA sB).held .b) (clears op) l.chord := rfl

end

/-! ## The synchronizer chain (R166) -/

theorem shiftChain_getD_zero {c : Config} (hS : 1 ≤ c.syncStages) (sample : Bool) (chain : List Bool) :
    (shiftChain c sample chain).getD 0 false = sample := by
  obtain ⟨n, hn⟩ : ∃ n, c.syncStages = n + 1 := ⟨c.syncStages - 1, by omega⟩
  rw [shiftChain, hn]
  rfl

theorem shiftChain_getD_succ {c : Config} {j : Nat} (hj : j + 1 < c.syncStages) (sample : Bool)
    (chain : List Bool) : (shiftChain c sample chain).getD (j + 1) false = chain.getD j false := by
  simp [shiftChain, List.getD_eq_getElem?_getD, hj]

theorem shiftChain_length {c : Config} {chain : List Bool} (h : chain.length = c.syncStages) (sample : Bool) :
    (shiftChain c sample chain).length = c.syncStages := by
  rw [shiftChain, List.length_take, List.length_cons, h]
  omega

/-! ## The latency of a press (41_input_latch.md section 5) -/

/-- A press has reached stage `k` of a warm line and no later stage. -/
structure Latch.Travelling (c : Config) (x : Line) (k : Nat) (l : Latch) : Prop where
  stage : (l.chain x).getD k false = true
  later : ∀ j, k < j → j < c.syncStages → (l.chain x).getD j false = false
  prev : l.prev x = false
  warm : l.warm = c.syncStages + 1

theorem Latch.warm_cycle_of_warm {c : Config} {l : Latch} (h : l.warm = c.syncStages + 1) (op : LatchWord)
    (sA sB : Bool) : (l.cycle c op sA sB).warm = c.syncStages + 1 := by
  rw [Latch.warm_cycle, h]
  omega

/-- The edge that samples the press takes it into stage 0. -/
theorem Latch.travelling_of_press {c : Config} {x : Line} {l : Latch} {op : LatchWord} {sA sB : Bool}
    (hS : 2 ≤ c.syncStages) (hwarm : l.warm = c.syncStages + 1)
    (hchain : l.chain x = List.replicate c.syncStages false) (hpress : lineSample sA sB x = true) :
    (l.cycle c op sA sB).Travelling c x 0 where
  stage := by rw [Latch.chain_cycle, shiftChain_getD_zero (by omega), hpress]
  later := fun j hj hjS => by
    obtain ⟨i, rfl⟩ : ∃ i, j = i + 1 := ⟨j - 1, by omega⟩
    rw [Latch.chain_cycle, shiftChain_getD_succ hjS, hchain, List.getD_replicate _ (by omega)]
  prev := by rw [Latch.prev_cycle, lineLevel, hchain, List.getD_replicate _ (by omega)]
  warm := Latch.warm_cycle_of_warm hwarm _ _ _

/-- Each further edge takes it one stage on, whatever is sampled and driven. -/
theorem Latch.Travelling.cycle {c : Config} {x : Line} {k : Nat} {l : Latch} (h : l.Travelling c x k)
    (hk : k + 1 < c.syncStages) (op : LatchWord) (sA sB : Bool) :
    (l.cycle c op sA sB).Travelling c x (k + 1) where
  stage := by rw [Latch.chain_cycle, shiftChain_getD_succ hk, h.stage]
  later := fun j hj hjS => by
    obtain ⟨i, rfl⟩ : ∃ i, j = i + 1 := ⟨j - 1, by omega⟩
    rw [Latch.chain_cycle, shiftChain_getD_succ hjS, h.later i (by omega) (by omega)]
  prev := by rw [Latch.prev_cycle, lineLevel, h.later _ (by omega) (by omega)]
  warm := Latch.warm_cycle_of_warm h.warm _ _ _

theorem Latch.Travelling.after {c : Config} {x : Line} {k : Nat} {l : Latch}
    (ins : List (LatchWord × Bool × Bool)) (h : l.Travelling c x k) (hk : k + ins.length < c.syncStages) :
    (Latch.after c ins l).Travelling c x (k + ins.length) := by
  induction ins generalizing k l with
  | nil => exact h
  | cons e ins ih =>
    obtain ⟨op, sA, sB⟩ := e
    rw [List.length_cons] at hk ⊢
    have hnext := ih (h.cycle (by omega) op sA sB) (by omega)
    rwa [Nat.add_assoc, Nat.add_comm 1] at hnext

/-- A press at the last stage is the level and an assertion edge, which sets FLAG and HELD. -/
theorem Latch.Travelling.seen {c : Config} {x : Line} {l : Latch} (h : l.Travelling c x (c.syncStages - 1))
    (op : LatchWord) (sA sB : Bool) :
    lineLevel c (l.chain x) = true ∧ l.rise c x = true ∧ (l.cycle c op sA sB).flag x = true ∧
      (l.cycle c op sA sB).held x = true := by
  have hlevel : lineLevel c (l.chain x) = true := h.stage
  have hen : l.enabled c = true := decide_eq_true h.warm
  have hrise : l.rise c x = true := by rw [Latch.rise, hen, hlevel, h.prev]; rfl
  refine ⟨hlevel, hrise, ?_, ?_⟩
  · rw [Latch.flag_cycle, hrise, nextFlag, Bool.true_or]
  · rw [Latch.held_cycle, hrise, nextHeld, Bool.true_or]

/-- Settles O26: the press enters stage 0 and travels to the last stage, on either line. -/
theorem pressSeenAfterSyncStages : Obligations.PressSeenAfterSyncStages := by
  unfold Obligations.PressSeenAfterSyncStages
  intro c l op op' a b between hS hwarm hlen
  have press : ∀ (x : Line) (sA sB : Bool), l.chain x = List.replicate c.syncStages false →
      lineSample sA sB x = true →
      (Latch.after c ((op, sA, sB) :: between) l).Travelling c x (c.syncStages - 1) :=
    fun x sA sB hchain hpress => by
      have hlast := (Latch.travelling_of_press (op := op) hS hwarm hchain hpress).after between (by omega)
      rwa [hlen, Nat.zero_add] at hlast
  exact ⟨fun hchain _ => (press .a true b hchain rfl).seen op' a b,
    fun hchain _ => (press .b a true hchain rfl).seen op' a b⟩

/-! ## A button held through reset (41_input_latch.md section 2, R168) -/

/-- Every sample of the line since reset was 1: the stages filled so far hold it, and no edge was seen. -/
structure Latch.Unseen (c : Config) (x : Line) (l : Latch) : Prop where
  stages : ∀ j, j < c.syncStages → j < l.warm → (l.chain x).getD j false = true
  prev : l.warm = c.syncStages + 1 → l.prev x = true
  flag : l.flag x = false
  held : l.held x = false
  chord : l.chord = false

theorem Latch.Unseen.atReset (c : Config) (x : Line) : (Latch.atReset c).Unseen c x where
  stages := fun _ _ hj => absurd hj (Nat.not_lt_zero _)
  prev := fun h => absurd h (Nat.succ_ne_zero _).symm
  flag := by cases x <;> rfl
  held := by cases x <;> rfl
  chord := rfl

/-- When edges are enabled the previous level is already 1. -/
theorem Latch.Unseen.rise {c : Config} {x : Line} {l : Latch} (h : l.Unseen c x) : l.rise c x = false := by
  rw [Latch.rise, Latch.enabled]
  by_cases hwarm : l.warm = c.syncStages + 1
  · rw [h.prev hwarm, riseOf, Bool.not_true, Bool.and_false]
  · rw [decide_eq_false hwarm]
    rfl

theorem nextChord_of_held_false {heldA heldB clr : Bool} (h : heldA = false ∨ heldB = false) :
    nextChord heldA heldB clr false = false := by
  rcases h with rfl | rfl <;> simp [nextChord]

theorem Latch.Unseen.cycle {c : Config} {x : Line} {l : Latch} (hS : 2 ≤ c.syncStages) (h : l.Unseen c x)
    (op : LatchWord) {sA sB : Bool} (hpress : lineSample sA sB x = true) :
    (l.cycle c op sA sB).Unseen c x := by
  have hheld : (l.cycle c op sA sB).held x = false := by
    rw [Latch.held_cycle, h.rise, h.held]
    rfl
  refine ⟨fun j hjS hj => ?_, fun hwarm => ?_, ?_, hheld, ?_⟩
  · rw [Latch.warm_cycle] at hj
    rw [Latch.chain_cycle]
    cases j with
    | zero => rw [shiftChain_getD_zero (by omega), hpress]
    | succ i => rw [shiftChain_getD_succ hjS, h.stages i (by omega) (by omega)]
  · rw [Latch.warm_cycle] at hwarm
    rw [Latch.prev_cycle, lineLevel, h.stages _ (by omega) (by omega)]
  · rw [Latch.flag_cycle, h.rise, h.flag]
    rfl
  · rw [Latch.chord_cycle, h.chord]
    refine nextChord_of_held_false ?_
    cases x with
    | a => exact .inl hheld
    | b => exact .inr hheld

theorem Latch.Unseen.after {c : Config} {x : Line} {l : Latch} (hS : 2 ≤ c.syncStages)
    (ins : List (LatchWord × Bool × Bool)) (hpress : ∀ e ∈ ins, lineSample e.2.1 e.2.2 x = true)
    (h : l.Unseen c x) : (Latch.after c ins l).Unseen c x := by
  induction ins generalizing l with
  | nil => exact h
  | cons e ins ih =>
    obtain ⟨hhead, htail⟩ := List.forall_mem_cons.mp hpress
    exact ih htail (h.cycle hS e.1 hhead)

/-- Settles O27: from reset on the line stays unseen. -/
theorem heldThroughResetUnseen : Obligations.HeldThroughResetUnseen := by
  unfold Obligations.HeldThroughResetUnseen
  intro c ins hS
  have unseen : ∀ x : Line, (∀ e ∈ ins, lineSample e.2.1 e.2.2 x = true) →
      (Latch.after c ins (Latch.atReset c)).Unseen c x :=
    fun x hpress => (Latch.Unseen.atReset c x).after hS ins hpress
  refine ⟨fun hpress => ?_, fun hpress => ?_⟩
  · obtain ⟨_, _, hflag, hheld, hchord⟩ := unseen .a hpress
    exact ⟨hflag, hheld, hchord⟩
  · obtain ⟨_, _, hflag, hheld, hchord⟩ := unseen .b hpress
    exact ⟨hflag, hheld, hchord⟩

/-! ## The flag invariants (10_state.md R48) -/

/-- HELD implies FLAG on each line, and CHORD implies both FLAGs. -/
structure Latch.FlagsOk (l : Latch) : Prop where
  held : ∀ x, l.held x = true → l.flag x = true
  chord : l.chord = true → ∀ x, l.flag x = true

theorem Latch.flagsOk_iff (l : Latch) :
    l.FlagsOk ↔ (l.heldA = true → l.flagA = true) ∧ (l.heldB = true → l.flagB = true) ∧
      (l.chord = true → l.flagA = true ∧ l.flagB = true) := by
  constructor
  · exact fun h => ⟨h.held .a, h.held .b, fun hc => ⟨h.chord hc .a, h.chord hc .b⟩⟩
  · rintro ⟨hA, hB, hchord⟩
    refine ⟨fun x => ?_, fun hc x => ?_⟩
    · cases x with
      | a => exact hA
      | b => exact hB
    · obtain ⟨ha, hb⟩ := hchord hc
      cases x with
      | a => exact ha
      | b => exact hb

theorem nextFlag_of_nextHeld {rise fall clr held flag : Bool} (h : nextHeld rise fall clr held = true)
    (hf : held = true → flag = true) : nextFlag rise clr flag = true := by
  simp only [nextHeld, nextFlag, Bool.or_eq_true, Bool.and_eq_true] at h ⊢
  rcases h with hrise | ⟨⟨hheld, hclr⟩, _⟩
  · exact .inl hrise
  · exact .inr ⟨hf hheld, hclr⟩

theorem Latch.FlagsOk.cycle {l : Latch} (h : l.FlagsOk) (c : Config) (op : LatchWord) (sA sB : Bool) :
    (l.cycle c op sA sB).FlagsOk := by
  have hheld : ∀ x, (l.cycle c op sA sB).held x = true → (l.cycle c op sA sB).flag x = true := fun x hx => by
    rw [Latch.held_cycle] at hx
    rw [Latch.flag_cycle]
    exact nextFlag_of_nextHeld hx (h.held x)
  refine ⟨hheld, fun hc x => ?_⟩
  rw [Latch.chord_cycle, nextChord, Bool.or_eq_true, Bool.and_eq_true, Bool.and_eq_true] at hc
  rcases hc with ⟨hA, hB⟩ | ⟨hchord, hclr⟩
  · cases x with
    | a => exact hheld .a hA
    | b => exact hheld .b hB
  · rw [Latch.flag_cycle, nextFlag, h.chord hchord x, hclr, Bool.and_true, Bool.or_true]

theorem Latch.FlagsOk.atReset (c : Config) : (Latch.atReset c).FlagsOk :=
  (Latch.flagsOk_iff _).mpr ⟨fun h => (nomatch h), fun h => (nomatch h), fun h => (nomatch h)⟩

theorem step_flagsOk {s t : State} (h : s.latch.FlagsOk) (hstep : step s = .next t) : t.latch.FlagsOk := by
  cases hr : s.pins.rst with
  | true =>
    rw [step_of_rst hr] at hstep
    injection hstep with hstep
    rw [← hstep, State.resetEdge_latch]
    exact Latch.FlagsOk.atReset _
  | false =>
    rw [step_latch hr hstep]
    exact h.cycle _ _ _ _

/-- Settles O25: the flags are in order after reset, and every cycle of the latch keeps them so. -/
theorem flagInvariantsMaintained : Obligations.FlagInvariantsMaintained := by
  unfold Obligations.FlagInvariantsMaintained
  intro flagsOk
  have hiff : ∀ s, flagsOk s ↔ s.latch.FlagsOk := fun s => (Latch.flagsOk_iff s.latch).symm
  simp only [hiff]
  exact ⟨fun c => Latch.FlagsOk.atReset c, fun s t h hstep => step_flagsOk h hstep⟩

/-! ## What clears a flag (R169, R222) -/

theorem clears_of_nextFlag_false {rise clr flag : Bool} (hf : flag = true) (h : nextFlag rise clr flag = false) :
    clr = true := by
  subst hf
  cases clr <;> simp_all [nextFlag]

theorem clears_of_nextChord_false {heldA heldB clr chord : Bool} (hc : chord = true)
    (h : nextChord heldA heldB clr chord = false) : clr = true := by
  subst hc
  cases clr <;> simp_all [nextChord]

/-- The sequencer drives CLEAR_ALL in four steps, and NONE in every other. -/
theorem latchDrive_eq (u : StepCode) (s : State) :
    latchDrive u s =
      if u = 4 ∨ u = 25 ∨ u = 38 ∨
          (u = 15 ∧ s.cfg.clearFlagsAtWindow = true ∧ s.pins.rnd.toNat ≤ 2) then 0b01
      else 0b00 := by
  have hcode : ∀ v : StepCode, u = v ↔ u.toNat = v.toNat := fun v => BitVec.toNat_inj.symm
  simp only [latchDrive, hcode]
  split <;> simp_all

/-- Settles O28: a flag falls only in a cycle that clears, and the port carries what the step drives. -/
theorem flagsClearedOnlyByClearAll : Obligations.FlagsClearedOnlyByClearAll := by
  unfold Obligations.FlagsClearedOnlyByClearAll
  refine ⟨fun s t hr h hcleared => ?_, fun s hword => ?_⟩
  · rw [step_latch hr h] at hcleared
    rw [← clears_iff]
    rcases hcleared with ⟨hset, hclr⟩ | ⟨hset, hclr⟩ | ⟨hset, hclr⟩
    · exact clears_of_nextFlag_false hset hclr
    · exact clears_of_nextFlag_false hset hclr
    · exact clears_of_nextChord_false hset hclr
  · have hport : s.latchPort = latchDrive s.seq.upc s := by simp only [State.latchPort, hword]
    rw [hport, latchDrive_eq]
    split
    · next h => exact ⟨⟨fun _ => h, fun _ => rfl⟩, .inl rfl⟩
    · next h => exact ⟨⟨fun hc => absurd hc (by decide), fun hc => absurd hc h⟩, .inr rfl⟩

/-! ## The latch's invariant -/

theorem Latch.Inv.flagsOk {c : Config} {l : Latch} (h : l.Inv c) : l.FlagsOk :=
  (Latch.flagsOk_iff l).mpr ⟨h.heldA, h.heldB, h.chord⟩

theorem Latch.Inv.atReset (c : Config) : (Latch.atReset c).Inv c where
  lengthA := List.length_replicate
  lengthB := List.length_replicate
  warm := Nat.zero_le _
  heldA := fun h => nomatch h
  heldB := fun h => nomatch h
  chord := fun h => nomatch h

/-- Every cycle of the latch keeps its invariant. -/
theorem Latch.Inv.cycle {c : Config} {l : Latch} (h : l.Inv c) (op : LatchWord) (sA sB : Bool) :
    (l.cycle c op sA sB).Inv c := by
  obtain ⟨hA, hB, hchord⟩ := (Latch.flagsOk_iff _).mp (h.flagsOk.cycle c op sA sB)
  exact ⟨shiftChain_length h.lengthA sA, shiftChain_length h.lengthB sB, Nat.min_le_right _ _, hA, hB, hchord⟩

end Sys2Proof.Machine
end

section
/-! The step table (43_game_fsm.md R230 to R290), said once: the condition under which each step completes and
the sequencer's registers it then leaves. Every invariant of the sequencer is a case split over these rows. -/

namespace Sys2Proof.Machine

/-! ## The rows -/

/-- Step `u` completes when `done` holds and then leaves the registers `q`; a step with two successors has a row
for each. -/
inductive StepRow (s : State) : StepCode → Bool → Seq → Prop
  | bootInit : StepRow s 0 s.led.ready { s.seq with upc := 1 }
  | bootChkFatal (h : s.led.st = .fatal) : StepRow s 1 true { s.seq with upc := 63 }
  | bootChk (h : s.led.st ≠ .fatal) : StepRow s 1 true { s.seq with upc := 2 }
  | idleDraw : StepRow s 2 s.pins.dispReady { s.seq with t0 := s.timer.us, upc := 3 }
  | idleWaitChord (h : s.latch.chord = true) : StepRow s 3 true { s.seq with upc := 4 }
  | idleWait : StepRow s 3 (deadline s.timer.us s.seq.t0 idleRefreshUs) { s.seq with upc := 2 }
  | idleExit : StepRow s 4 true { s.seq with score := 0, snapshot := 0, round := 0, session := true, upc := 5 }
  | cdDisp : StepRow s 5 s.pins.dispReady { s.seq with tCd := s.timer.us, slot := .red, upc := 6 }
  | cdCheckOver : StepRow s 6 true { s.seq with upc := 15 }
  | cdCheck : StepRow s 6 true { s.seq with upc := 7 }
  | cdSet : StepRow s 7 s.led.ready { s.seq with upc := 8 }
  | cdFlush1 : StepRow s 8 s.led.ready { s.seq with upc := 9 }
  | cdFwait1 : StepRow s 9 s.led.isIdle { s.seq with t0 := s.timer.us, upc := 10 }
  | cdOn : StepRow s 10 (deadline s.timer.us s.seq.t0 countdownOnUs) { s.seq with upc := 11 }
  | cdClr : StepRow s 11 s.led.ready { s.seq with upc := 12 }
  | cdFlush2 : StepRow s 12 s.led.ready { s.seq with upc := 13 }
  | cdFwait2 : StepRow s 13 s.led.isIdle { s.seq with t0 := s.timer.us, upc := 14 }
  | cdOff : StepRow s 14 (deadline s.timer.us s.seq.t0 countdownOffUs)
      { s.seq with slot := nextSlot s.seq.slot, upc := 6 }
  | rwDraw (c : Colour) : StepRow s 15 true { s.seq with target := c, snapshot := s.seq.score, upc := 16 }
  | rwDrawWaits : StepRow s 15 false s.seq
  | rwSet : StepRow s 16 s.led.ready { s.seq with upc := 17 }
  | rwFlush : StepRow s 17 s.led.ready { s.seq with upc := 18 }
  | rwFwait : StepRow s 18 s.led.isIdle { s.seq with tE := s.timer.us, upc := 19 }
  | rwPollOver : StepRow s 19 true { s.seq with upc := 26 }
  | rwPoll (h : elapsed s.timer.us s.seq.tE < windowUs) : StepRow s 19 s.hit
      { s.seq with score := s.seq.score + pointsAt (elapsed s.timer.us s.seq.tE), upc := 20 }
  | rwT1 : StepRow s 20 s.pins.toneReady { s.seq with upc := 21 }
  | rwT2 : StepRow s 21 s.pins.toneReady { s.seq with upc := 22 }
  | rwT3 : StepRow s 22 s.pins.toneReady { s.seq with upc := 23 }
  | rwLed : StepRow s 23 true
      { s.seq with sledR := 0, sledG := s.cfg.pctGreen, sledB := 0, t0 := s.timer.us, upc := 24 }
  | rwHold : StepRow s 24 (deadline s.timer.us s.seq.t0 holdUs) { s.seq with upc := 25 }
  | rwClr : StepRow s 25 true { s.seq with upc := 26 }
  | resChkMiss : StepRow s 26 true { s.seq with upc := 27 }
  | resChk : StepRow s 26 true { s.seq with upc := 31 }
  | resT1 : StepRow s 27 s.pins.toneReady { s.seq with upc := 28 }
  | resT2 : StepRow s 28 s.pins.toneReady { s.seq with upc := 29 }
  | resLed : StepRow s 29 true
      { s.seq with sledR := s.cfg.pctRed, sledG := 0, sledB := 0, t0 := s.timer.us, upc := 30 }
  | resHold : StepRow s 30 (deadline s.timer.us s.seq.t0 holdUs) { s.seq with upc := 31 }
  | resOff : StepRow s 31 true { s.seq with sledR := 0, sledG := 0, sledB := 0, upc := 32 }
  | resClr : StepRow s 32 s.led.ready { s.seq with upc := 33 }
  | resFlush : StepRow s 33 s.led.ready { s.seq with upc := 34 }
  | resFwait : StepRow s 34 s.led.isIdle { s.seq with upc := 35 }
  | resNextLast (h : s.seq.round + 1 = 10) : StepRow s 35 true { s.seq with round := s.seq.round + 1, upc := 36 }
  | resNext (h : s.seq.round + 1 ≠ 10) : StepRow s 35 true { s.seq with round := s.seq.round + 1, upc := 5 }
  | goDraw : StepRow s 36 s.pins.dispReady { s.seq with upc := 37 }
  | goChkPressed : StepRow s 37 true { s.seq with upc := 38 }
  | goChk : StepRow s 37 true { s.seq with upc := 36 }
  | goExit : StepRow s 38 true { s.seq with score := 0, round := 0, session := false, upc := 2 }
  | halt (u : StepCode) (h : 39 ≤ u.toNat) : StepRow s u false s.seq

theorem exec_stepIdleWait (s : State) :
    exec .stepIdleWait s =
      if s.latch.chord = true then stepEdge 3 true { s.seq with upc := 4 } s
      else stepEdge 3 (deadline s.timer.us s.seq.t0 idleRefreshUs) { s.seq with upc := 2 } s := by
  change execStepIdleWait s = _
  rw [execStepIdleWait, Latch.outChord]
  cases s.latch.chord <;> rfl

/-- Every step is the edge of one of its rows. -/
theorem exec_stepRow (u : StepCode) (s : State) :
    ∃ done q, StepRow s u done q ∧ exec (decodeStep u) s = stepEdge u done q s := by
  obtain ⟨hcode, _⟩ := encode_decodeStep u
  generalize decodeStep u = i at hcode ⊢
  cases i <;> cases hcode
  case stepIdleWait =>
    by_cases hchord : s.latch.chord = true
    · exact ⟨_, _, .idleWaitChord hchord, (exec_stepIdleWait s).trans (if_pos hchord)⟩
    · exact ⟨_, _, .idleWait, (exec_stepIdleWait s).trans (if_neg hchord)⟩
  case stepRwDraw =>
    cases hcolour : colourOf s.pins.rnd with
    | some c => exact ⟨_, _, .rwDraw c, exec_stepRwDraw_of_colour hcolour⟩
    | none => exact ⟨_, _, .rwDrawWaits, exec_stepRwDraw_of_no_colour hcolour⟩
  case stepRwPoll =>
    by_cases hlate : 700000 ≤ (s.timer.us - s.seq.tE).toNat
    · exact ⟨_, _, .rwPollOver, exec_stepRwPoll_late hlate⟩
    · exact ⟨_, _, .rwPoll (Nat.not_le.mp hlate), exec_stepRwPoll_in_window hlate⟩
  all_goals refine ⟨_, _, ?_, rfl⟩
  case stepBootChk =>
    split
    · next h => exact .bootChkFatal (of_decide_eq_true h)
    · next h => exact .bootChk fun hst => h (decide_eq_true hst)
  case stepCdCheck => split; exacts [.cdCheckOver, .cdCheck]
  case stepResChk => split; exacts [.resChkMiss, .resChk]
  case stepResNext =>
    split
    · next h => exact .resNextLast h
    · next h => exact .resNext h
  case stepGoChk => split; exacts [.goChkPressed, .goChk]
  all_goals constructor
  all_goals exact Nat.le_of_ble_eq_true rfl

/-! ## The rows in a step -/

/-- Without a client's word, a step without reset is the edge of a row of its `upc`. -/
theorem step_stepRow {s t : State} (hr : s.pins.rst = false) (hw : s.clientWord = none)
    (h : step s = .next t) :
    ∃ done q, StepRow s s.seq.upc done q ∧
      t = s.advance (s.clocked (stepDrives s.seq.upc s) (if done then q else s.seq)) := by
  obtain ⟨done, q, hrow, hexec⟩ := exec_stepRow s.seq.upc s
  obtain ⟨_, q', rfl, ⟨_, he⟩ | ⟨p, hp, _⟩⟩ := step_next hr h
  · rw [hexec] at he
    exact ⟨done, q, hrow, congrArg s.advance (stepEdge_next he).2⟩
  · rw [hw] at hp; cases hp

theorem State.clientWord_of_no_script {s : State} (h : s.client.script = []) : s.clientWord = none := by
  simp [State.clientWord, State.script, h]

/-- All a step without reset does to the sequencer: a row of its step, or a client's word. -/
theorem step_seq_cases {s t : State} (hr : s.pins.rst = false) (h : step s = .next t) :
    (∃ done q, StepRow s s.seq.upc done q ∧ t.seq = if done then q else s.seq) ∨
      ∃ p, t.seq = portSeq s.seq p ∧ ∀ w, p = .sled w →
        percentsOk (w.extractLsb' 14 7) (w.extractLsb' 7 7) (w.extractLsb' 0 7) = true := by
  cases hw : s.clientWord with
  | none =>
    obtain ⟨done, q, hrow, rfl⟩ := step_stepRow hr hw h
    exact .inl ⟨done, q, hrow, rfl⟩
  | some p =>
    obtain ⟨_, q, rfl, ⟨hw', _⟩ | ⟨p', _, rfl, hp⟩⟩ := step_next hr h
    · rw [hw] at hw'; cases hw'
    · exact .inr ⟨p', rfl, hp⟩

/-! ## The score (43_game_fsm.md R261) -/

/-- The phases of a session's record: no session, a round before and after its award, the verdict. -/
def recordPhase (u : Nat) : Nat :=
  if u ≤ 4 ∨ u = 63 then 0 else if u ≤ 19 then 1 else if u ≤ 35 then 2 else if u ≤ 38 then 3 else 4

/-- What the record holds in a phase; the last is that of the unused steps. -/
def RecordOk (score : BitVec 16) (round : BitVec 4) (session : Bool) : Nat → Prop
  | 0 => score = 0 ∧ round = 0 ∧ session = false
  | 1 => session = true ∧ round.toNat ≤ 9 ∧ score.toNat ≤ 700 * round.toNat
  | 2 => session = true ∧ round.toNat ≤ 9 ∧ score.toNat ≤ 700 * (round.toNat + 1)
  | 3 => session = true ∧ round = 10 ∧ score.toNat ≤ 7000
  | _ => False

/-- The percentages of the status LED are at most 100. -/
def Seq.PercentsOk (q : Seq) : Prop := q.sledR.toNat ≤ 100 ∧ q.sledG.toNat ≤ 100 ∧ q.sledB.toNat ≤ 100

/-- The sequencer's invariant is that of its phase. -/
theorem Seq.inv_iff (q : Seq) :
    q.Inv ↔ RecordOk q.score q.round q.session (recordPhase q.upc.toNat) ∧ q.PercentsOk := by
  constructor
  · intro h
    refine ⟨?_, h.percents⟩
    have hstep := h.step
    unfold recordPhase
    split_ifs with h0 h1 h2 h3
    · exact h.outside h0
    · exact ⟨h.inSession (by omega) (by omega), h.inRound (by omega) (by omega), h.beforeAward (by omega) h1⟩
    · exact ⟨h.inSession (by omega) (by omega), h.inRound (by omega) h2, h.afterAward (by omega) h2⟩
    · exact ⟨h.inSession (by omega) h3, h.gameOver (by omega) h3⟩
    · omega
  · rintro ⟨hrec, hpct⟩
    unfold recordPhase at hrec
    split_ifs at hrec with h0 h1 h2 h3
    · exact ⟨by omega, fun _ => hrec, by omega, by omega, by omega, by omega, by omega, hpct⟩
    · obtain ⟨hsession, hround, hscore⟩ := hrec
      exact ⟨by omega, by omega, fun _ _ => hsession, fun _ _ => hround, fun _ _ => hscore, by omega, by omega,
        hpct⟩
    · obtain ⟨hsession, hround, hscore⟩ := hrec
      exact ⟨by omega, by omega, fun _ _ => hsession, fun _ _ => hround, by omega, fun _ _ => hscore, by omega,
        hpct⟩
    · obtain ⟨hsession, hverdict⟩ := hrec
      exact ⟨by omega, by omega, fun _ _ => hsession, by omega, by omega, by omega, fun _ _ => hverdict, hpct⟩
    · exact hrec.elim

/-- The award of a hit is 1 to 700 points and does not wrap the score of a round. -/
theorem award_toNat {s : State} (h : elapsed s.timer.us s.seq.tE < windowUs) (hscore : s.seq.score.toNat ≤ 6300) :
    s.seq.score.toNat + 1 ≤ (s.seq.score + pointsAt (elapsed s.timer.us s.seq.tE)).toNat ∧
      (s.seq.score + pointsAt (elapsed s.timer.us s.seq.tE)).toNat ≤ s.seq.score.toNat + 700 := by
  obtain ⟨_, hlow, hhigh⟩ := pointsAt_toNat h
  rw [BitVec.toNat_add]
  omega

/-- A round that is not the last is followed by another of the ten. -/
theorem round_succ_toNat {round : BitVec 4} (h : round.toNat ≤ 9) (hne : round + 1 ≠ 10) :
    (round + 1).toNat = round.toNat + 1 ∧ (round + 1).toNat ≤ 9 := by
  revert round
  decide

/-- A row that completes leaves registers that meet the invariant. -/
theorem StepRow.seqInv {s : State} {u : StepCode} {done : Bool} {q : Seq} (hrow : StepRow s u done q)
    (hu : s.seq.upc = u) (hc : s.cfg.Valid) (h : s.seq.Inv) : q.Inv := by
  obtain ⟨_, _, _, _, _, _, _, _, ⟨hgreen, hred⟩, _⟩ := hc
  rw [Seq.inv_iff] at h ⊢
  obtain ⟨hrec, hpct⟩ := h
  rw [hu] at hrec
  cases hrow
  case idleExit => exact ⟨⟨rfl, Nat.zero_le _, Nat.zero_le _⟩, hpct⟩
  case rwPollOver =>
    obtain ⟨hsession, hround, hscore⟩ := hrec
    exact ⟨⟨hsession, hround, Nat.le_trans hscore (Nat.mul_le_mul_left _ (Nat.le_succ _))⟩, hpct⟩
  case rwPoll hwindow =>
    obtain ⟨hsession, hround, hscore⟩ := hrec
    obtain ⟨_, haward⟩ := award_toNat hwindow (by omega)
    exact ⟨⟨hsession, hround, Nat.le_trans haward (Nat.add_le_add_right hscore 700)⟩, hpct⟩
  case rwLed => exact ⟨hrec, Nat.zero_le _, hgreen, Nat.zero_le _⟩
  case resLed => exact ⟨hrec, hred, Nat.zero_le _, Nat.zero_le _⟩
  case resOff => exact ⟨hrec, Nat.zero_le _, Nat.zero_le _, Nat.zero_le _⟩
  case resNextLast hlast =>
    obtain ⟨hsession, hround, hscore⟩ := hrec
    exact ⟨⟨hsession, hlast, Nat.le_trans hscore (by omega)⟩, hpct⟩
  case resNext hnot =>
    obtain ⟨hsession, hround, hscore⟩ := hrec
    obtain ⟨hcount, hround'⟩ := round_succ_toNat hround hnot
    exact ⟨⟨hsession, hround', by rw [hcount]; exact hscore⟩, hpct⟩
  case goExit => exact ⟨⟨rfl, rfl, rfl⟩, hpct⟩
  case rwDrawWaits => rw [hu]; exact ⟨hrec, hpct⟩
  case halt => rw [hu]; exact ⟨hrec, hpct⟩
  all_goals exact ⟨hrec, hpct⟩

/-- A status-LED write keeps the record and sets percentages of at most 100. -/
theorem Seq.Inv.portSeq {q : Seq} {p : PortWord} (h : q.Inv)
    (hp : ∀ w, p = .sled w →
      percentsOk (w.extractLsb' 14 7) (w.extractLsb' 7 7) (w.extractLsb' 0 7) = true) :
    (portSeq q p).Inv := by
  cases p with
  | sled w =>
    obtain ⟨hrec, _⟩ := (Seq.inv_iff q).mp h
    exact (Seq.inv_iff _).mpr ⟨hrec, (percentsOk_iff _ _ _).mp (hp w rfl)⟩
  | lcmd _ | latch _ | tone _ | disp _ => exact h

/-- Every step without reset keeps the sequencer's invariant. -/
theorem step_seqInv {s t : State} (hr : s.pins.rst = false) (hc : s.cfg.Valid) (h : s.seq.Inv)
    (hstep : step s = .next t) : t.seq.Inv := by
  rcases step_seq_cases hr hstep with ⟨done, q, hrow, hseq⟩ | ⟨p, hseq, hp⟩
  · rw [hseq]
    cases done with
    | true => exact hrow.seqInv rfl hc h
    | false => exact h
  · rw [hseq]
    exact h.portSeq hp

/-- What a row that completes does to the score. -/
theorem StepRow.score {s : State} {u : StepCode} {done : Bool} {q : Seq} (hrow : StepRow s u done q)
    (hu : s.seq.upc = u) (h : s.seq.Inv) :
    q.score = s.seq.score ∨
    (u = 19 ∧ s.seq.score.toNat + 1 ≤ q.score.toNat ∧ q.score.toNat ≤ s.seq.score.toNat + 700) ∨
    ((u = 4 ∨ u = 38) ∧ q.score = 0) := by
  cases hrow
  case idleExit => exact .inr (.inr ⟨.inl rfl, rfl⟩)
  case goExit => exact .inr (.inr ⟨.inr rfl, rfl⟩)
  case rwPoll hwindow =>
    have hpoll : s.seq.upc.toNat = 19 := by rw [hu]; rfl
    have hround := h.inRound (by omega) (by omega)
    have hscore := h.beforeAward (by omega) (by omega)
    exact .inr (.inl ⟨rfl, award_toNat hwindow (by omega)⟩)
  all_goals exact .inl rfl

theorem portSeq_score (q : Seq) (p : PortWord) : (portSeq q p).score = q.score := by
  cases p <;> rfl

/-- Settles O58: the score moves in the rows of IDLE_EXIT, RW_POLL and GO_EXIT only. -/
theorem scoreChangesOnlyInThreeSteps : Obligations.ScoreChangesOnlyInThreeSteps := by
  unfold Obligations.ScoreChangesOnlyInThreeSteps
  intro s t h hr hstep
  rcases step_seq_cases hr hstep with ⟨done, q, hrow, hseq⟩ | ⟨p, hseq, _⟩
  · rw [hseq]
    cases done with
    | true => exact hrow.score rfl h.seq
    | false => exact .inl rfl
  · rw [hseq]
    exact .inl (portSeq_score _ _)

/-! ## The top-level state (43_game_fsm.md section 10) -/

/-- The top-level state stays or follows an arrow of the document. -/
def TopLevelMove (u v : StepCode) : Prop :=
  stateOf v = stateOf u ∨
    (stateOf u, stateOf v) ∈
      [(0#3, 1#3), (0#3, 7#3), (1#3, 2#3), (2#3, 3#3), (3#3, 4#3), (4#3, 2#3), (4#3, 5#3), (5#3, 1#3)]

theorem StepRow.topLevelMove {s : State} {u : StepCode} {done : Bool} {q : Seq} (hrow : StepRow s u done q)
    (hu : s.seq.upc = u) : TopLevelMove u q.upc := by
  cases hrow
  case rwDrawWaits => exact .inl (congrArg stateOf hu)
  case halt => exact .inl (congrArg stateOf hu)
  all_goals
    unfold TopLevelMove
    dsimp only
    decide

/-- Settles O59: each row's successor lies in the same top-level state or at the end of an arrow. -/
theorem topLevelTransitionsOnly : Obligations.TopLevelTransitionsOnly := by
  unfold Obligations.TopLevelTransitionsOnly
  intro s t hscript hr hstep
  obtain ⟨done, q, hrow, rfl⟩ := step_stepRow hr (State.clientWord_of_no_script hscript) hstep
  cases done with
  | true => exact hrow.topLevelMove rfl
  | false => exact .inl rfl

end Sys2Proof.Machine
end

section
/-! The invariant of the block, with any client (10_state.md, 20_memory.md, 43_game_fsm.md R261): it holds at reset,
every step keeps it, and under it no step faults. -/

namespace Sys2Proof.Machine

/-! ## Reset -/

theorem Seq.Inv.atReset : Seq.atReset.Inv :=
  (Seq.inv_iff _).mpr ⟨⟨rfl, rfl, rfl⟩, Nat.zero_le _, Nat.zero_le _, Nat.zero_le _⟩

/-- The reset values meet the invariant. -/
theorem State.AtReset.inv {t : State} (h : t.AtReset) (hc : t.cfg.Valid) : t.Inv := by
  obtain ⟨hled, hlatch, htimer, hseq⟩ := h
  have ⟨_, _, _, _, hclk, _⟩ := hc
  refine ⟨hc, ?_, ?_, ?_, ?_⟩
  · rw [hled]; exact Led.Inv.atReset _
  · rw [hlatch]; exact Latch.Inv.atReset _
  · rw [htimer]; exact hclk
  · rw [hseq]; exact Seq.Inv.atReset

/-- Settles O52: the state of cycle 0 holds the reset values. -/
theorem invariantAtReset : Obligations.InvariantAtReset := by
  unfold Obligations.InvariantAtReset
  exact fun c hc => (State.resetWith_atReset c).inv hc

/-! ## A step -/

/-- The prescaler stays below CLK_PER_US. -/
theorem Timer.presc_tick_lt {c : Config} {t : Timer} (h : t.presc < c.clkPerUs) :
    (t.tick c).presc < c.clkPerUs := by
  by_cases hlast : t.presc = c.clkPerUs - 1
  · rw [Timer.tick_of_last hlast]
    exact Nat.zero_lt_of_lt h
  · rw [Timer.tick_of_not_last hlast]
    change t.presc + 1 < c.clkPerUs
    omega

theorem State.Inv.of_step {s t : State} (h : s.Inv) (hstep : step s = .next t) : t.Inv := by
  cases hr : s.pins.rst with
  | true =>
    rw [step_of_rst hr] at hstep
    injection hstep with hstep
    rw [← hstep]
    exact s.resetEdge_atReset.inv h.valid
  | false =>
    have hcfg := step_cfg hstep
    refine ⟨?_, ?_, ?_, ?_, step_seqInv hr h.valid h.seq hstep⟩ <;> rw [hcfg]
    · exact h.valid
    · rw [step_led hr hstep]
      exact h.led.cycle _ h.valid
    · rw [step_latch hr hstep]
      exact h.latch.cycle _ _ _
    · rw [step_timer_of_no_rst hr hstep]
      exact Timer.presc_tick_lt h.presc

/-- Settles O53: the reset edge restores the invariant, and without reset each sub-block keeps its own. -/
theorem stepKeepsInvariant : Obligations.StepKeepsInvariant := by
  unfold Obligations.StepKeepsInvariant
  exact fun s t h hstep => h.of_step hstep

/-! ## Faults and refusals -/

/-- With the serializer's read in range an instruction does not fault. -/
theorem exec_ne_fault {s : State} (hread : s.led.readsInRange s.cfg = true) (i : Instr) (f : Fault) :
    exec i s ≠ .fault f := by
  have edge : ∀ d q, clockEdge d q s ≠ .fault f := fun d q => by
    rw [clockEdge_eq hread]
    exact nofun
  cases i
  case sled r g b =>
    change execSled r g b s ≠ _
    unfold execSled
    split
    · exact edge _ _
    · exact nofun
  case stepRwDraw =>
    change execStepRwDraw s ≠ _
    unfold execStepRwDraw
    split <;> exact edge _ _
  case stepRwPoll =>
    change execStepRwPoll s ≠ _
    unfold execStepRwPoll
    split <;> exact edge _ _
  all_goals exact edge _ _

/-- A step without reset performs the instruction of the cycle. -/
theorem step_of_fetch {s : State} {i : Instr} (hr : s.pins.rst = false) (hf : s.fetch = .ok i) :
    step s = s.carry (exec i s) := by
  unfold step
  rw [hr, if_neg Bool.false_ne_true, hf]

theorem step_of_fetch_error {s : State} {why : Reject} (hr : s.pins.rst = false) (hf : s.fetch = .error why) :
    step s = .refused (.rejected why) := by
  unfold step
  rw [hr, if_neg Bool.false_ne_true, hf]

theorem State.fetch_of_no_word {s : State} (h : s.clientWord = none) : s.fetch = decode (.step s.seq.upc) := by
  rw [State.fetch, h]

theorem State.fetch_of_word {s : State} {p : PortWord} (h : s.clientWord = some p) :
    s.fetch = decode (.port p) := by
  rw [State.fetch, h]

/-- Settles O5: the branches of `step`, of `carry` and of `fetch`. -/
theorem stepRunsFetchedInstruction : Obligations.StepRunsFetchedInstruction := by
  unfold Obligations.StepRunsFetchedInstruction
  refine ⟨fun s i hr hf => ⟨fun t hexec => ?_, fun f hexec => ?_⟩, fun s why hr hf => step_of_fetch_error hr hf,
    fun s h => State.fetch_of_no_word h, fun s p h => State.fetch_of_word h⟩
  · rw [step_of_fetch hr hf, hexec]
    rfl
  · rw [step_of_fetch hr hf, hexec]
    rfl

/-- With the serializer's read in range a step does not fault. -/
theorem step_ne_fault {s : State} (hread : s.led.readsInRange s.cfg = true) (f : Fault) : step s ≠ .fault f := by
  cases hr : s.pins.rst with
  | true =>
    rw [step_of_rst hr]
    exact nofun
  | false =>
    cases hf : s.fetch with
    | error why =>
      rw [step_of_fetch_error hr hf]
      exact nofun
    | ok i =>
      rw [step_of_fetch hr hf]
      cases hexec : exec i s with
      | fault f' => exact absurd hexec (exec_ne_fault hread i f')
      | next t => exact nofun
      | refused why => exact nofun

/-- With the read in range and no client's word a step answers a next state. -/
theorem step_answers {s : State} (hread : s.led.readsInRange s.cfg = true) (hw : s.clientWord = none) :
    ∃ t, step s = .next t := by
  cases hr : s.pins.rst with
  | true => exact ⟨_, step_of_rst hr⟩
  | false =>
    obtain ⟨done, q, _, hexec⟩ := exec_stepRow s.seq.upc s
    rw [step_of_fetch hr (State.fetch_of_no_word hw), hexec, stepEdge, clockEdge_eq hread]
    exact ⟨_, rfl⟩

/-- Settles O54: the invariant keeps the serializer's read in range, and every step of the table answers. -/
theorem invariantRulesOutFaults : Obligations.InvariantRulesOutFaults := by
  unfold Obligations.InvariantRulesOutFaults
  exact fun s h => ⟨step_ne_fault h.led.readsInRange, step_answers h.led.readsInRange⟩

end Sys2Proof.Machine
end

section
/-! The assembled GAC, in which no client presents anything (43_game_fsm.md R226, R243, R256): in every step the
driver stands where the step expects it and shows the lit colour. Each row of the step table keeps this by the one
command it drives. -/

namespace Sys2Proof.Machine

/-! ## What the steps drive on the LED port (30_encoding.md R108) -/

/-- SET_PIXEL of a colour's position and channels. -/
def colourCmd (c : Config) (k : Colour) : LedCmd :=
  .setPixel (colourPos c k) (colourRgb c k).1 (colourRgb c k).2.1 (colourRgb c k).2.2

theorem decodeLcmd_colourWord (c : Config) (k : Colour) : decodeLcmd (colourWord c k) = colourCmd c k :=
  decodeLcmd_setPixelWord _ _ _ _

theorem stepDrives_init (s : State) : stepDrives 0 s = { led := some .init } := rfl

theorem stepDrives_cdSet (s : State) : stepDrives 7 s = { led := some (colourCmd s.cfg s.seq.slot) } := by
  rw [← decodeLcmd_colourWord]
  rfl

theorem stepDrives_rwSet (s : State) : stepDrives 16 s = { led := some (colourCmd s.cfg s.seq.target) } := by
  rw [← decodeLcmd_colourWord]
  rfl

theorem ledDrive_clear {u : StepCode} (hu : u ∈ [11#6, 32#6]) (s : State) : ledDrive u s = some clearWord := by
  simp only [List.mem_cons, List.not_mem_nil, or_false] at hu
  rcases hu with rfl | rfl <;> rfl

theorem ledDrive_flush {u : StepCode} (hu : u ∈ [8#6, 12#6, 17#6, 33#6]) (s : State) :
    ledDrive u s = some flushWord := by
  simp only [List.mem_cons, List.not_mem_nil, or_false] at hu
  rcases hu with rfl | rfl | rfl | rfl <;> rfl

theorem stepDrives_flush {u : StepCode} (hu : u ∈ [8#6, 12#6, 17#6, 33#6]) (s : State) :
    stepDrives u s = { led := some .flush } := by
  simp only [List.mem_cons, List.not_mem_nil, or_false] at hu
  rcases hu with rfl | rfl | rfl | rfl <;> rfl

theorem stepDrives_clear {u : StepCode} (hu : u ∈ [11#6, 32#6]) (s : State) :
    stepDrives u s = { led := some .clear } := by
  simp only [List.mem_cons, List.not_mem_nil, or_false] at hu
  rcases hu with rfl | rfl <;> rfl

/-! ## The steps that drive no request (R221, R223) -/

theorem ledDrive_eq_none {u : StepCode} (hu : u ∉ [0#6, 7#6, 8#6, 11#6, 12#6, 16#6, 17#6, 32#6, 33#6])
    (s : State) : ledDrive u s = none := by
  simp only [List.mem_cons, List.not_mem_nil, or_false, ← BitVec.toNat_inj] at hu
  unfold ledDrive
  split <;> simp_all

theorem toneDrive_eq_none {u : StepCode} (hu : u ∉ [20#6, 21#6, 22#6, 27#6, 28#6]) (s : State) :
    toneDrive u s = none := by
  simp only [List.mem_cons, List.not_mem_nil, or_false, ← BitVec.toNat_inj] at hu
  unfold toneDrive
  split <;> simp_all

theorem dispDrive_eq_none {u : StepCode} (hu : u ∉ [2#6, 5#6, 36#6]) (s : State) : dispDrive u s = none := by
  simp only [List.mem_cons, List.not_mem_nil, or_false, ← BitVec.toNat_inj] at hu
  unfold dispDrive
  split <;> simp_all

theorem latchDrive_eq_zero {u : StepCode} (hu : u ∉ [4#6, 25#6, 38#6, 15#6]) (s : State) :
    latchDrive u s = 0b00 := by
  simp only [List.mem_cons, List.not_mem_nil, or_false, not_or] at hu
  obtain ⟨h4, h25, h38, h15⟩ := hu
  rw [latchDrive_eq, if_neg]
  rintro (h | h | h | ⟨h, _⟩)
  exacts [h4 h, h25 h, h38 h, h15 h]

/-! ## The halting steps (R107, R290) -/

/-- FATAL_HALT and the unused steps drive nothing. -/
theorem stepDrives_halt {u : StepCode} (hu : 39 ≤ u.toNat) (s : State) : stepDrives u s = {} := by
  have hother : u ∉ [0#6, 7#6, 8#6, 11#6, 12#6, 16#6, 17#6, 32#6, 33#6] ∧ u ∉ [20#6, 21#6, 22#6, 27#6, 28#6] ∧
      u ∉ [2#6, 5#6, 36#6] ∧ u ∉ [4#6, 25#6, 38#6, 15#6] := by
    revert u
    decide
  obtain ⟨hled, htone, hdisp, hlatch⟩ := hother
  rw [stepDrives, ledDrive_eq_none hled, toneDrive_eq_none htone, dispDrive_eq_none hdisp,
    latchDrive_eq_zero hlatch]
  rfl

/-- A halting step stands with the driver IDLE or FATAL. -/
theorem ledStatesAt_halt {n : Nat} {st : LedState} (hn : 39 ≤ n) (h : st ∈ ledStatesAt n) :
    st = .idle ∨ st = .fatal := by
  unfold ledStatesAt at h
  split_ifs at h
  · omega
  · omega
  · exact .inr (List.mem_singleton.mp h)
  · omega
  · exact .inl (List.mem_singleton.mp h)

/-! ## The driver in a step -/

/-- The colour lit while step `u` stands, by the slot and the target. -/
def litAt (u : StepCode) (slot target : Colour) : Option Colour :=
  if 8 ≤ u.toNat ∧ u.toNat ≤ 11 then some slot
  else if 17 ≤ u.toNat ∧ u.toNat ≤ 32 then some target
  else none

theorem litColour_eq (q : Seq) : litColour q = litAt q.upc q.slot q.target := rfl

/-- Element `i` of a buffer that shows at most one lit colour. -/
def shownAt (c : Config) (k : Option Colour) (i : Nat) : Pixel :=
  match k with
  | none => 0
  | some k => if i = (colourPos c k).toNat then litElement c k else 0

/-- The part of the assembled invariant that ties the driver to the sequencer. -/
structure DriverInStep (c : Config) (l : Led) (q : Seq) : Prop where
  state : l.st ∈ ledStatesAt q.upc.toNat
  errors : l.err = if l.st = .fatal then 0b1000 else 0
  lit : l.st ≠ .uninit → l.st ≠ .fatal → ∀ i, i < c.pixels → l.fb.read i = some (shownAt c (litColour q) i)

theorem State.assembledInv_iff (s : State) :
    s.AssembledInv ↔ s.Inv ∧ s.client.script = [] ∧ DriverInStep s.cfg s.led s.seq :=
  ⟨fun h => ⟨h.inv, h.noScript, h.ledState, h.errors, h.lit⟩,
    fun ⟨hinv, hscript, h⟩ => ⟨hinv, hscript, h.state, h.errors, h.lit⟩⟩

theorem Led.isIdle_iff (l : Led) : l.isIdle = true ↔ l.st = .idle := by
  rw [Led.isIdle, decide_eq_true_eq]

/-- The serializer goes from TX over LATCH to IDLE. -/
theorem Led.HasValues.cycle_none {l : Led} (h : l.HasValues) (c : Config) : (l.cycle c none).HasValues := by
  rcases h with hst | hst | hst
  · rw [Led.cycle_none_of_ready ((Led.ready_iff l).mpr (.inr hst))]
    exact .inl hst
  · rw [Led.cycle_tx hst, Led.txCycle]
    split_ifs
    · exact .inr (.inr rfl)
    all_goals exact .inr (.inl hst)
  · rw [Led.cycle_latch hst, Led.latchCycle]
    split_ifs
    · exact .inl rfl
    · exact .inr (.inr hst)

section
variable {c : Config} {l : Led} {q q' : Seq} {u : StepCode}

theorem DriverInStep.idle (h : DriverInStep c l q) (hu : q.upc = u) (hstates : ledStatesAt u.toNat = [.idle]) :
    l.st = .idle := by
  have hst := h.state
  rwa [hu, hstates, List.mem_singleton] at hst

theorem DriverInStep.noError (h : DriverInStep c l q) (hst : l.st ≠ .fatal) : l.err = 0 := by
  rw [h.errors, if_neg hst]

/-- An IDLE driver whose step goes on to one that expects IDLE and lights the same. -/
theorem DriverInStep.moved (h : DriverInStep c l q) (hst : l.st = .idle)
    (hstate : .idle ∈ ledStatesAt q'.upc.toNat) (hlit : litColour q = litColour q') : DriverInStep c l q' where
  state := hst ▸ hstate
  errors := h.errors
  lit := hlit ▸ h.lit

/-- A step without an LED command, done or not. -/
theorem DriverInStep.quiet (h : DriverInStep c l q) (hu : q.upc = u) (hstates : ledStatesAt u.toNat = [.idle])
    (hstate : .idle ∈ ledStatesAt q'.upc.toNat) (hlit : litAt u q.slot q.target = litColour q') (done : Bool) :
    DriverInStep c (l.cycle c none) (if done then q' else q) := by
  have hst := h.idle hu hstates
  rw [Led.cycle_none_of_ready ((Led.ready_iff l).mpr (.inr hst))]
  cases done with
  | false => exact h
  | true =>
    rw [if_pos rfl]
    exact h.moved hst hstate (by rw [litColour_eq, hu, hlit])

/-- A step without an LED command that does not complete, the driver IDLE or FATAL. -/
theorem DriverInStep.hold (h : DriverInStep c l q) (hst : l.st = .idle ∨ l.st = .fatal) :
    DriverInStep c (l.cycle c none) q := by
  rcases hst with hst | hst
  · rw [Led.cycle_none_of_ready ((Led.ready_iff l).mpr (.inr hst))]
    exact h
  · rw [Led.cycle_fatal hst]
    exact h

/-- The frame of a flush wait, or its hold, goes on. -/
theorem DriverInStep.framed (h : DriverInStep c l q) (hst : l.HasValues) (hu : q.upc = u)
    (hstates : ledStatesAt u.toNat = [.tx, .latch, .idle]) : DriverInStep c (l.cycle c none) q := by
  have hne := hst.not_blank
  have hst' := hst.cycle_none c
  refine ⟨?_, ?_, fun _ _ i hi => ?_⟩
  · rw [hu, hstates]
    rcases hst' with hst' | hst' | hst' <;> simp [hst']
  · rw [if_neg fun hf => hst'.not_blank (.inr hf), Led.cycle_none_err, h.noError fun hf => hne (.inr hf)]
  · rw [Led.cycle_none_fb]
    exact h.lit (fun hf => hne (.inl hf)) (fun hf => hne (.inr hf)) i hi

/-- A flush wait: the frame goes on, and the step completes when it is over. -/
theorem DriverInStep.flushWait (h : DriverInStep c l q) (hu : q.upc = u)
    (hstates : ledStatesAt u.toNat = [.tx, .latch, .idle]) (hstate : .idle ∈ ledStatesAt q'.upc.toNat)
    (hlit : litAt u q.slot q.target = litColour q') :
    DriverInStep c (l.cycle c none) (if l.isIdle then q' else q) := by
  by_cases hst : l.st = .idle
  · rw [Led.cycle_none_of_ready ((Led.ready_iff l).mpr (.inr hst)), if_pos ((Led.isIdle_iff l).mpr hst)]
    exact h.moved hst hstate (by rw [litColour_eq, hu, hlit])
  · have hvalues : l.HasValues := by
      have hmem := h.state
      rw [hu, hstates] at hmem
      simpa [Led.HasValues, hst] using hmem
    rw [if_neg fun hidle => hst ((Led.isIdle_iff l).mp hidle)]
    exact h.framed hvalues hu hstates

/-- FLUSH presented to an IDLE driver. -/
theorem DriverInStep.flush (h : DriverInStep c l q) (hu : q.upc = u) (hstates : ledStatesAt u.toNat = [.idle])
    (hstate : .tx ∈ ledStatesAt q'.upc.toNat) (hlit : litAt u q.slot q.target = litColour q') :
    DriverInStep c (l.cycle c (some .flush)) (if l.ready then q' else q) := by
  have hst := h.idle hu hstates
  have hready := (Led.ready_iff l).mpr (.inr hst)
  rw [Led.cycle_some_of_ready hready, Led.run_flush_starts hst, if_pos hready]
  refine ⟨hstate, h.noError (by simp [hst]), fun _ _ i hi => ?_⟩
  rw [← hlit, ← hu, ← litColour_eq]
  exact h.lit (by simp [hst]) (by simp [hst]) i hi

/-- CLEAR presented to an IDLE driver. -/
theorem DriverInStep.clear (h : DriverInStep c l q) (hu : q.upc = u) (hstates : ledStatesAt u.toNat = [.idle])
    (hstate : .idle ∈ ledStatesAt q'.upc.toNat) (hlit : litColour q' = none) :
    DriverInStep c (l.cycle c (some .clear)) (if l.ready then q' else q) := by
  have hst := h.idle hu hstates
  have hready := (Led.ready_iff l).mpr (.inr hst)
  rw [Led.cycle_some_of_ready hready, Led.run_clear_idle hst, if_pos hready]
  refine ⟨hst ▸ hstate, h.errors, fun _ _ i hi => ?_⟩
  rw [Memory.read_fill, if_pos hi, hlit]
  rfl

/-- The pixel SET_PIXEL writes for a colour is the element a lit position holds. -/
theorem litElement_eq (c : Config) (k : Colour) :
    (colourRgb c k).2.1 ++ (colourRgb c k).1 ++ (colourRgb c k).2.2 = litElement c k := by
  cases k <;> rfl

/-- SET_PIXEL of a colour presented to an IDLE driver that shows nothing. -/
theorem DriverInStep.light (h : DriverInStep c l q) {k : Colour} (hpos : (colourPos c k).toNat < c.pixels)
    (hu : q.upc = u) (hstates : ledStatesAt u.toNat = [.idle]) (hdark : litAt u q.slot q.target = none)
    (hstate : .idle ∈ ledStatesAt q'.upc.toNat) (hlit : litColour q' = some k) :
    DriverInStep c (l.cycle c (some (colourCmd c k))) (if l.ready then q' else q) := by
  have hst := h.idle hu hstates
  have hready := (Led.ready_iff l).mpr (.inr hst)
  rw [Led.cycle_some_of_ready hready, colourCmd, Led.run_setPixel_in_range _ _ _ hst hpos, if_pos hready,
    litElement_eq]
  refine ⟨hst ▸ hstate, h.errors, fun _ _ i hi => ?_⟩
  have hold := h.lit (by simp [hst]) (by simp [hst]) i hi
  rw [litColour_eq, hu, hdark] at hold
  rw [Memory.read_write, hlit, hold, shownAt, shownAt]
  split <;> rfl

/-- INIT presented to the driver after reset. -/
theorem DriverInStep.init (h : DriverInStep c l q) (hu : q.upc = 0) (hu' : q'.upc = 1) :
    DriverInStep c (l.cycle c (some .init)) (if l.ready then q' else q) := by
  have hst : l.st = .uninit := by
    have hst := h.state
    rw [hu] at hst
    exact List.mem_singleton.mp hst
  have hready := (Led.ready_iff l).mpr (.inl hst)
  have herr := h.noError (by simp [hst])
  rw [Led.cycle_some_of_ready hready, if_pos hready]
  cases hchan : c.ledChanAvail with
  | true =>
    rw [Led.run_init_claims hst hchan]
    refine ⟨by rw [hu']; exact List.mem_cons_self, herr, fun _ _ i hi => ?_⟩
    rw [Memory.read_fill, if_pos hi, litColour_eq, hu']
    rfl
  | false =>
    rw [Led.run_init_fails hst hchan]
    refine ⟨by rw [hu', Led.raiseFatal_st]; decide, by rw [Led.raiseFatal_err, herr]; rfl, fun _ hne => ?_⟩
    exact absurd l.raiseFatal_st hne

end

theorem colourPos_lt {c : Config} (hc : c.Valid) (k : Colour) : (colourPos c k).toNat < c.pixels := by
  obtain ⟨_, _, ⟨hred, hgreen, hblue⟩, _⟩ := hc
  cases k with
  | red => exact hred
  | green => exact hgreen
  | blue => exact hblue

/-- Every row of the step table keeps the driver where its steps expect it. -/
theorem StepRow.driverInStep {s : State} {u : StepCode} {done : Bool} {q : Seq} (hrow : StepRow s u done q)
    (hu : s.seq.upc = u) (hc : s.cfg.Valid) (h : DriverInStep s.cfg s.led s.seq) :
    DriverInStep s.cfg (s.led.cycle s.cfg (stepDrives u s).led) (if done then q else s.seq) := by
  cases hrow
  case bootInit => exact h.init hu rfl
  case bootChkFatal hst =>
    rw [Led.cycle_fatal hst, if_pos rfl]
    exact ⟨List.mem_singleton.mpr hst, h.errors, fun _ hne => absurd hst hne⟩
  case bootChk hst =>
    have hidle : s.led.st = .idle := by
      have hmem := h.state
      rw [hu] at hmem
      exact (List.mem_pair.mp hmem).resolve_right hst
    have hdrive : (stepDrives 1 s).led = none := rfl
    rw [if_pos rfl, hdrive, Led.cycle_none_of_ready ((Led.ready_iff _).mpr (.inr hidle))]
    exact h.moved hidle (of_decide_eq_true rfl) (by rw [litColour_eq, hu]; rfl)
  case cdSet => rw [stepDrives_cdSet]; exact h.light (colourPos_lt hc _) hu rfl rfl (of_decide_eq_true rfl) rfl
  case rwSet => rw [stepDrives_rwSet]; exact h.light (colourPos_lt hc _) hu rfl rfl (of_decide_eq_true rfl) rfl
  case cdFlush1 | cdFlush2 | rwFlush | resFlush =>
    rw [stepDrives_flush (by decide)]
    exact h.flush hu rfl (of_decide_eq_true rfl) rfl
  case cdClr | resClr =>
    rw [stepDrives_clear (by decide)]
    exact h.clear hu rfl (of_decide_eq_true rfl) rfl
  case cdFwait1 | cdFwait2 | rwFwait | resFwait =>
    exact h.flushWait hu rfl (of_decide_eq_true rfl) rfl
  case rwDrawWaits => exact h.hold (.inl (h.idle hu rfl))
  case halt hhalt =>
    have hst := h.state
    rw [hu] at hst
    rw [stepDrives_halt hhalt]
    exact h.hold (ledStatesAt_halt hhalt hst)
  all_goals exact h.quiet hu rfl (of_decide_eq_true rfl) rfl _

/-! ## The assembled invariant -/

theorem State.AtReset.assembledInv {t : State} (h : t.AtReset) (hc : t.cfg.Valid)
    (hscript : t.client.script = []) : t.AssembledInv := by
  refine (State.assembledInv_iff t).mpr ⟨h.inv hc, hscript, ?_⟩
  obtain ⟨hled, _, _, hseq⟩ := h
  rw [hled, hseq]
  exact ⟨List.mem_singleton.mpr rfl, rfl, fun hne => absurd rfl hne⟩

/-- Settles O55: the state of cycle 0 holds the reset values and has no script. -/
theorem assembledInvariantAtReset : Obligations.AssembledInvariantAtReset := by
  unfold Obligations.AssembledInvariantAtReset
  exact fun c hc => (State.resetWith_atReset c).assembledInv hc rfl

theorem State.AssembledInv.of_step {s t : State} (h : s.AssembledInv) (hstep : step s = .next t) :
    t.AssembledInv := by
  obtain ⟨hinv, hscript, hdriver⟩ := (State.assembledInv_iff s).mp h
  cases hr : s.pins.rst with
  | true =>
    rw [step_of_rst hr] at hstep
    injection hstep with hstep
    rw [← hstep]
    exact s.resetEdge_atReset.assembledInv hinv.valid hscript
  | false =>
    refine (State.assembledInv_iff t).mpr ⟨hinv.of_step hstep, ?_⟩
    obtain ⟨done, q, hrow, rfl⟩ := step_stepRow hr (State.clientWord_of_no_script hscript) hstep
    exact ⟨State.nextClient_script_of_no_script hscript, hrow.driverInStep rfl hinv.valid hdriver⟩

/-- Settles O56: the reset edge restores the invariant, and every row of the step table keeps it. -/
theorem stepKeepsAssembledInvariant : Obligations.StepKeepsAssembledInvariant := by
  unfold Obligations.StepKeepsAssembledInvariant
  exact fun s t h hstep => h.of_step hstep

theorem State.AssembledInv.answers {s : State} (h : s.AssembledInv) : ∃ t, step s = .next t ∧ t.AssembledInv := by
  obtain ⟨t, hstep⟩ := step_answers h.inv.led.readsInRange (State.clientWord_of_no_script h.noScript)
  exact ⟨t, hstep, h.of_step hstep⟩

/-- A run of the assembled GAC reaches every cycle, in its invariant. -/
theorem State.AssembledInv.after {s : State} (h : s.AssembledInv) (k : Nat) :
    ∃ t, s.after k = .next t ∧ t.AssembledInv := by
  induction k with
  | zero => exact ⟨s, rfl, h⟩
  | succ k ih =>
    obtain ⟨u, hu, hinv⟩ := ih
    obtain ⟨t, hstep, hinv'⟩ := hinv.answers
    exact ⟨t, State.after_succ.mpr ⟨u, hu, hstep⟩, hinv'⟩

/-- Settles O57: a step from the invariant answers in the invariant, which holds in cycle 0 whatever the inputs
are. -/
theorem assembledRunsForEver : Obligations.AssembledRunsForEver := by
  unfold Obligations.AssembledRunsForEver
  refine ⟨fun s h => h.answers, fun c env hc k => ?_⟩
  have hreset : ({ State.resetWith c with env := env }).AtReset := State.resetWith_atReset c
  obtain ⟨t, ht, _⟩ := (hreset.assembledInv hc rfl).after k
  exact ⟨t, ht⟩

end Sys2Proof.Machine
end

section
/-! The collaborator requests and the steps of the sequencer, instruction by instruction (42_collaborators.md,
43_game_fsm.md R230 to R290): one lemma for each way a step can stand on the ports, and each step read off
from its lemma. -/

namespace Sys2Proof.Machine

/-! ## The collaborators' record (42_collaborators.md R192, R197) -/

/-- The record after a cycle in which a tone request stood on its port. -/
def Collab.toned (k : Collab) (w : ToneWord) (ready : Bool) : Collab :=
  if ready then { k with toneLast := some w, toneDone := k.toneDone + 1 } else k

/-- The record after a cycle in which a display request stood on its port. -/
def Collab.displayed (k : Collab) (w : DispWord) (ready : Bool) : Collab :=
  if ready then { k with dispLast := some w, dispDone := k.dispDone + 1 } else k

theorem Collab.cycle_tone (k : Collab) (w : ToneWord) (p : Pins) :
    k.cycle { tone := some w } p = k.toned w p.toneReady := by
  rw [Collab.toned]
  cases hready : p.toneReady <;> simp [Collab.cycle, hready]

theorem Collab.cycle_disp (k : Collab) (w : DispWord) (p : Pins) :
    k.cycle { disp := some w } p = k.displayed w p.dispReady := by
  rw [Collab.displayed]
  cases hready : p.dispReady <;> simp [Collab.cycle, hready]

/-! ## An edge with a request -/

/-- An edge at which a tone request stands on its port, whatever becomes of the sequencer. -/
theorem clockEdge_tone {s : State} (hread : s.led.readsInRange s.cfg = true) (w : ToneWord) (q : Seq) :
    ∃ t, clockEdge { tone := some w } q s = .next t ∧ t.seq = q ∧ NoLedCommand s t ∧ EdgeRest 0b00 s t ∧
      t.collab = s.collab.toned w s.pins.toneReady :=
  ⟨_, clockEdge_eq hread, rfl, noLedCommand_clocked _ _ rfl, edgeRest_clocked _ _ rfl,
    Collab.cycle_tone _ _ _⟩

/-- An edge at which a display request stands on its port, whatever becomes of the sequencer. -/
theorem clockEdge_disp {s : State} (hread : s.led.readsInRange s.cfg = true) (w : DispWord) (q : Seq) :
    ∃ t, clockEdge { disp := some w } q s = .next t ∧ t.seq = q ∧ NoLedCommand s t ∧ EdgeRest 0b00 s t ∧
      t.collab = s.collab.displayed w s.pins.dispReady :=
  ⟨_, clockEdge_eq hread, rfl, noLedCommand_clocked _ _ rfl, edgeRest_clocked _ _ rfl,
    Collab.cycle_disp _ _ _⟩

/-- Settles O31: each of the five is an edge with its word on the tone port. -/
theorem toneRequestTransferred : Obligations.ToneRequestTransferred := by
  unfold Obligations.ToneRequestTransferred
  intro s vol hread
  have edge := fun w => clockEdge_tone hread w s.seq
  simp only [List.forall_mem_cons]
  exact ⟨edge _, edge _, edge _, edge _, edge _, List.forall_mem_nil _⟩

/-- Settles O32: each of the five is an edge with its word on the display port. -/
theorem dispRequestTransferred : Obligations.DispRequestTransferred := by
  unfold Obligations.DispRequestTransferred
  intro s score hread
  have edge := fun w => clockEdge_disp hread w s.seq
  simp only [List.forall_mem_cons]
  exact ⟨edge _, edge _, edge _, edge _, edge _, List.forall_mem_nil _⟩

/-! ## The status-LED word (R199) -/

theorem exec_sled (r g b : BitVec 7) (s : State) :
    exec (.sled r g b) s =
      if percentsOk r g b then clockEdge {} (s.seq.withSled r g b) s
      else .refused (.rejected .sledPercent) := rfl

/-- Settles O33: both the meaning and the decoder ask `percentsOk`. -/
theorem sledWordSetsPercentages : Obligations.SledWordSetsPercentages := by
  unfold Obligations.SledWordSetsPercentages
  intro s r g b hread
  refine ⟨fun hpct => ?_, fun hover => ?_⟩
  · rw [exec_sled, if_pos ((percentsOk_iff r g b).mpr hpct)]
    exact ⟨_, clockEdge_eq hread, rfl, quietEdge_clocked _ _⟩
  · have hnot : ¬ percentsOk r g b = true := by
      rw [percentsOk_iff]
      omega
    exact ⟨(exec_sled r g b s).trans (if_neg hnot), (decodeSled_sledWord r g b).trans (if_neg hnot)⟩

/-! ## Steps that drive nothing -/

/-- A step that drives nothing and completes in every cycle. -/
theorem stepEdge_done {u : StepCode} {q q' : Seq} {s : State} (hd : stepDrives u s = {})
    (hread : s.led.readsInRange s.cfg = true) (hq : q = q') :
    ∃ t, stepEdge u true q s = .next t ∧ QuietEdge s t ∧ t.seq = q' := by
  rw [← hq]
  exact stepEdge_quiet (done := true) hd hread

/-- Settles O35: each of the four completes in every cycle, and its test is the statement's. -/
theorem branchStepsChooseSuccessor : Obligations.BranchStepsChooseSuccessor := by
  unfold Obligations.BranchStepsChooseSuccessor
  intro s hread pressed
  have hfatal : s.led.isFatal = true ↔ s.led.st = .fatal := by rw [Led.isFatal, decide_eq_true_eq]
  have hpressed : (s.latch.outA s.cfg || s.latch.outB s.cfg) = pressed := by
    simp only [pressed, Latch.outA, Latch.outB]
    cases s.cfg.latchMode <;> rfl
  refine ⟨?bootChk, ?cdCheck, ?resChk, ?goChk⟩
  case bootChk => exact stepEdge_done (u := 1) rfl hread (by rw [if_congr hfatal rfl rfl])
  case cdCheck => exact stepEdge_done (u := 6) rfl hread (by rw [ite_deadline]; rfl)
  case resChk => exact stepEdge_done (u := 26) rfl hread rfl
  case goChk => exact stepEdge_done (u := 37) rfl hread (by rw [hpressed])

/-- Settles O48: each of the three completes in every cycle. -/
theorem statusLedStepsWriteOutputs : Obligations.StatusLedStepsWriteOutputs := by
  unfold Obligations.StatusLedStepsWriteOutputs
  intro s hread
  simp only [List.forall_mem_cons]
  refine ⟨?rwLed, ?resLed, ?resOff, List.forall_mem_nil _⟩
  case rwLed => exact stepEdge_done (u := 23) rfl hread rfl
  case resLed => exact stepEdge_done (u := 29) rfl hread rfl
  case resOff => exact stepEdge_done (u := 31) rfl hread rfl

theorem round_succ_eq_ten_iff (round : BitVec 4) : round + 1 = roundsPerSession ↔ round = 9 := by
  revert round
  decide

/-- Settles O49: the tenth round follows round 9. -/
theorem nextRoundOrVerdict : Obligations.NextRoundOrVerdict := by
  unfold Obligations.NextRoundOrVerdict
  intro s hread
  exact stepEdge_done (u := 35) rfl hread (by rw [if_congr (round_succ_eq_ten_iff _) rfl rfl])

/-- Settles O42: each of the four completes exactly when the driver is IDLE. -/
theorem flushWaitsCompleteAtIdle : Obligations.FlushWaitsCompleteAtIdle := by
  unfold Obligations.FlushWaitsCompleteAtIdle
  intro s hread
  have wait : ∀ u q, stepDrives u s = {} → ∃ t, stepEdge u s.led.isIdle q s = .next t ∧ QuietEdge s t ∧
      t.seq = if s.led.st = .idle then q else s.seq := fun u q hd => by
    obtain ⟨t, he, hquiet, hseq⟩ := stepEdge_quiet (done := s.led.isIdle) (q := q) hd hread
    exact ⟨t, he, hquiet, hseq.trans (if_congr (Led.isIdle_iff _) rfl rfl)⟩
  simp only [List.forall_mem_cons]
  refine ⟨?cdFwait1, ?cdFwait2, ?rwFwait, ?resFwait, List.forall_mem_nil _⟩
  case cdFwait1 => exact wait 9 _ rfl
  case cdFwait2 => exact wait 13 _ rfl
  case rwFwait => exact wait 18 _ rfl
  case resFwait => exact wait 34 _ rfl

/-- The codes from 39 on are the halting steps. -/
theorem exec_halt {u : StepCode} (hu : 39 ≤ u.toNat) (s : State) : exec (decodeStep u) s = haltEdge u s := by
  obtain ⟨⟨n, hn⟩⟩ := u
  have hn' : n < 64 := hn
  have hlow : 39 ≤ n := hu
  interval_cases n <;> rfl

/-- Settles O50: the 25 instructions are the steps of the codes from 39 on. -/
theorem haltStepsHold : Obligations.HaltStepsHold := by
  unfold Obligations.HaltStepsHold
  intro s hread i hi
  have hcode : ∃ u : StepCode, 39 ≤ u.toNat ∧ decodeStep u = i := by
    revert i
    decide
  obtain ⟨u, hu, rfl⟩ := hcode
  rw [exec_halt hu]
  exact stepEdge_quiet (done := false) (stepDrives_halt hu s) hread

/-! ## Steps that clear the latch (R237, R268, R287) -/

theorem stepEdge_clearAll {u : StepCode} {s : State} (hd : stepDrives u s = { latch := 0b01 })
    (hread : s.led.readsInRange s.cfg = true) (q : Seq) :
    ∃ t, stepEdge u true q s = .next t ∧ t.seq = q ∧ NoLedCommand s t ∧ EdgeRest 0b01 s t ∧
      t.collab = s.collab := by
  rw [stepEdge, hd]
  exact ⟨_, clockEdge_eq hread, rfl, noLedCommand_clocked _ _ rfl, edgeRest_clocked _ _ rfl,
    Collab.cycle_none _ _ _ _⟩

/-- Settles O38: each of the three drives CLEAR_ALL and completes in every cycle. -/
theorem clearAllStepsResetRecord : Obligations.ClearAllStepsResetRecord := by
  unfold Obligations.ClearAllStepsResetRecord
  intro s hread
  simp only [List.forall_mem_cons]
  refine ⟨?idleExit, ?rwClr, ?goExit, List.forall_mem_nil _⟩
  case idleExit => exact stepEdge_clearAll (u := 4) rfl hread _
  case rwClr => exact stepEdge_clearAll (u := 25) rfl hread _
  case goExit => exact stepEdge_clearAll (u := 38) rfl hread _

/-! ## Steps that present an LED command (R221) -/

/-- A step that presents an LED command completes when the driver accepts it, which then runs it. -/
theorem stepEdge_presents {u : StepCode} {k : LedCmd} {s : State} (hd : stepDrives u s = { led := some k })
    (hread : s.led.readsInRange s.cfg = true) (q : Seq) :
    ∃ t, stepEdge u s.led.ready q s = .next t ∧ EdgeRest 0b00 s t ∧ t.collab = s.collab ∧
      (s.led.ready = true → t.seq = q ∧ t.led = Led.run s.cfg k s.led) ∧
      (s.led.ready = false → t.seq = s.seq ∧ NoLedCommand s t) := by
  obtain ⟨t, he, hrest, hcollab, hseq, hled, hbusy⟩ := stepEdge_led (done := s.led.ready) (q := q) hd hread
  refine ⟨t, he, hrest, hcollab, fun hready => ⟨?_, ?_⟩, fun hready => ⟨?_, hbusy hready⟩⟩
  · rw [hseq, if_pos hready]
  · rw [hled, Led.cycle_some_of_ready hready]
  · rw [hseq, hready, if_neg Bool.false_ne_true]

/-- Settles O34: BOOT_INIT presents INIT. -/
theorem bootInitPresentsInit : Obligations.BootInitPresentsInit := by
  unfold Obligations.BootInitPresentsInit
  intro s hread
  exact stepEdge_presents (stepDrives_init s) hread _

/-- A step that presents SET_PIXEL of a colour; in range it writes that colour's element and no other. -/
theorem stepEdge_light {u : StepCode} {k : Colour} {s : State}
    (hd : stepDrives u s = { led := some (colourCmd s.cfg k) }) (hread : s.led.readsInRange s.cfg = true)
    (q : Seq) :
    ∃ t, stepEdge u s.led.ready q s = .next t ∧ EdgeRest 0b00 s t ∧ t.collab = s.collab ∧
      (s.led.ready = true → t.seq = q ∧ t.led = Led.run s.cfg (colourCmd s.cfg k) s.led) ∧
      (s.led.ready = false → t.seq = s.seq ∧ NoLedCommand s t) ∧
      (s.led.st = .idle → (colourPos s.cfg k).toNat < s.cfg.pixels →
        t.led = { s.led with fb := t.led.fb } ∧
        t.led.fb.read (colourPos s.cfg k).toNat =
          some ((colourRgb s.cfg k).2.1 ++ (colourRgb s.cfg k).1 ++ (colourRgb s.cfg k).2.2) ∧
        ∀ a, a ≠ (colourPos s.cfg k).toNat → t.led.fb.read a = s.led.fb.read a) := by
  obtain ⟨t, he, hrest, hcollab, hready, hbusy⟩ := stepEdge_presents hd hread q
  refine ⟨t, he, hrest, hcollab, hready, hbusy, fun hst hpos => ?_⟩
  obtain ⟨_, hled⟩ := hready ((Led.ready_iff _).mpr (.inr hst))
  exact Led.read_of_written (hled.trans (Led.run_setPixel_in_range _ _ _ hst hpos))

/-- Settles O39: both steps present SET_PIXEL of their colour, whose position and channels the statement writes
out. -/
theorem colourStepsLightOnePosition : Obligations.ColourStepsLightOnePosition := by
  unfold Obligations.ColourStepsLightOnePosition
  intro s hread
  simp only [List.forall_mem_cons]
  refine ⟨?cdSet, ?rwSet, List.forall_mem_nil _⟩
  case cdSet => exact stepEdge_light (stepDrives_cdSet s) hread _
  case rwSet => exact stepEdge_light (stepDrives_rwSet s) hread _

theorem Led.run_flush_fb (c : Config) (l : Led) : (Led.run c .flush l).fb = l.fb := by
  change (Led.flushCmd l).fb = l.fb
  unfold Led.flushCmd
  split <;> rfl

theorem stepEdge_flush {u : StepCode} {s : State} (hu : u ∈ [8#6, 12#6, 17#6, 33#6])
    (hread : s.led.readsInRange s.cfg = true) (q : Seq) :
    ∃ t, stepEdge u s.led.ready q s = .next t ∧ EdgeRest 0b00 s t ∧ t.collab = s.collab ∧
      (s.led.ready = true → t.seq = q) ∧
      (s.led.st = .idle → t.led = { s.led with st := .tx, pix := 0, bit := 23, cnt := 0 }) ∧
      (s.led.st = .uninit → t.led = { s.led with err := s.led.err ||| 0b0010 }) ∧
      (s.led.ready = false → t.seq = s.seq ∧ NoLedCommand s t) ∧
      ∀ a, t.led.fb.read a = s.led.fb.read a := by
  obtain ⟨t, he, hrest, hcollab, hready, hbusy⟩ := stepEdge_presents (stepDrives_flush hu s) hread q
  refine ⟨t, he, hrest, hcollab, fun h => (hready h).1, fun hst => ?_, fun hst => ?_, hbusy, fun a => ?_⟩
  · obtain ⟨_, hled⟩ := hready ((Led.ready_iff _).mpr (.inr hst))
    exact hled.trans (Led.run_flush_starts hst)
  · obtain ⟨_, hled⟩ := hready ((Led.ready_iff _).mpr (.inl hst))
    exact hled.trans (Led.run_flush_uninit hst)
  · cases h : s.led.ready with
    | true => rw [(hready h).2, Led.run_flush_fb]
    | false => exact (hbusy h).2.fb a

/-- Settles O40: each of the four presents FLUSH. -/
theorem flushStepsStartFrame : Obligations.FlushStepsStartFrame := by
  unfold Obligations.FlushStepsStartFrame
  intro s hread
  simp only [List.forall_mem_cons]
  refine ⟨?cdFlush1, ?cdFlush2, ?rwFlush, ?resFlush, List.forall_mem_nil _⟩
  case cdFlush1 => exact stepEdge_flush (u := 8) (by decide) hread _
  case cdFlush2 => exact stepEdge_flush (u := 12) (by decide) hread _
  case rwFlush => exact stepEdge_flush (u := 17) (by decide) hread _
  case resFlush => exact stepEdge_flush (u := 33) (by decide) hread _

theorem stepEdge_clear {u : StepCode} {s : State} (hu : u ∈ [11#6, 32#6])
    (hread : s.led.readsInRange s.cfg = true) (q : Seq) :
    ∃ t, stepEdge u s.led.ready q s = .next t ∧ EdgeRest 0b00 s t ∧ t.collab = s.collab ∧
      (s.led.ready = true → t.seq = q) ∧
      (s.led.st = .idle → t.led = { s.led with fb := t.led.fb } ∧
        ∀ i, t.led.fb.read i = if i < s.cfg.pixels then some 0x000000 else none) ∧
      (s.led.st = .uninit → t.led = { s.led with err := s.led.err ||| 0b0010 }) ∧
      (s.led.ready = false → t.seq = s.seq ∧ NoLedCommand s t) := by
  obtain ⟨t, he, hrest, hcollab, hready, hbusy⟩ := stepEdge_presents (stepDrives_clear hu s) hread q
  refine ⟨t, he, hrest, hcollab, fun h => (hready h).1, fun hst => ?_, fun hst => ?_, hbusy⟩
  · obtain ⟨_, hled⟩ := hready ((Led.ready_iff _).mpr (.inr hst))
    exact Led.read_of_filled (hled.trans (Led.run_clear_idle hst))
  · obtain ⟨_, hled⟩ := hready ((Led.ready_iff _).mpr (.inl hst))
    exact hled.trans (Led.run_clear_uninit hst)

/-- Settles O41: both steps present CLEAR. -/
theorem clearStepsBlankBuffer : Obligations.ClearStepsBlankBuffer := by
  unfold Obligations.ClearStepsBlankBuffer
  intro s hread
  simp only [List.forall_mem_cons]
  refine ⟨?cdClr, ?resClr, List.forall_mem_nil _⟩
  case cdClr => exact stepEdge_clear (u := 11) (by decide) hread _
  case resClr => exact stepEdge_clear (u := 32) (by decide) hread _

end Sys2Proof.Machine
end

section
/-! The sequencer's request ports (43_game_fsm.md R221, R223, 30_encoding.md R108, R109): the steps that drive
each, the fields of a request, and that a request which is not taken stands unchanged in the next cycle. -/

namespace Sys2Proof.Machine

/-! ## The LED port -/

/-- Settles O60: the port is `ledDrive` of `upc`, a function of the configuration and of registers that a waiting
step holds. -/
theorem ledPortCarriesWordOfStep : Obligations.LedPortCarriesWordOfStep := by
  unfold Obligations.LedPortCarriesWordOfStep
  refine ⟨fun s hword => ?_, fun s => ⟨?_, fun hvalid => ?_⟩, fun s t hs ht hr hstep hvalid hready => ?_⟩
  · intro lit
    have hlit : ∀ k, colourWord s.cfg k = lit k := fun k => by cases k <;> rfl
    rw [State.ledPort_of_none hword]
    refine ⟨fun hu => ?_, fun hu => ?_, fun hu => ?_, fun hu => ?_, fun hu => ?_, fun hu => ledDrive_eq_none hu s⟩
    · rw [hu]; rfl
    · rw [hu, ← hlit]; rfl
    · rw [hu, ← hlit]; rfl
    · exact ledDrive_clear hu s
    · exact ledDrive_flush hu s
  · rw [State.ledCmdValid, State.ledCmd]
    cases s.ledPort <;> simp
  · rw [State.ledCmd, Option.not_isSome_iff_eq_none.mp (Bool.eq_false_iff.mp hvalid), Option.getD_none]
  · rw [State.ledCmdValid, State.ledPort_of_none hs] at hvalid
    obtain ⟨hseq, hcfg⟩ := step_waits hs hr (.inl ⟨hvalid, hready⟩) hstep
    rw [State.ledPort_of_none ht, State.ledPort_of_none hs, hseq, ledDrive_congr hcfg hseq]

/-! ## The tone port -/

/-- A request on the tone port shows its three fields. -/
theorem State.tone_fields {s : State} {f d : BitVec 16} {v : BitVec 8} (h : s.tonePort = some (toneWord f d v)) :
    s.toneValid = true ∧ s.toneFreq = f ∧ s.toneDur = d ∧ s.toneVol = v := by
  obtain ⟨hf, hd, hv⟩ := toneWord_fields f d v
  rw [State.toneValid, State.toneFreq, State.toneDur, State.toneVol, h, Option.getD_some]
  exact ⟨rfl, hf, hd, hv⟩

theorem State.tone_silent {s : State} (h : s.toneValid = false) :
    s.toneFreq = 0 ∧ s.toneDur = 0 ∧ s.toneVol = 0 := by
  have hport : s.tonePort = none := Option.not_isSome_iff_eq_none.mp (Bool.eq_false_iff.mp h)
  rw [State.toneFreq, State.toneDur, State.toneVol, hport]
  decide

/-- A step that presents a tone request completes at its transfer. -/
theorem stepEdge_tone {u : StepCode} {w : ToneWord} {s : State} (hd : stepDrives u s = { tone := some w })
    (hread : s.led.readsInRange s.cfg = true) (q : Seq) :
    ∃ t, stepEdge u s.pins.toneReady q s = .next t ∧ NoLedCommand s t ∧ EdgeRest 0b00 s t ∧
      (s.pins.toneReady = true → t.seq = q ∧
        t.collab = { s.collab with toneLast := some w, toneDone := s.collab.toneDone + 1 }) ∧
      (s.pins.toneReady = false → t.seq = s.seq ∧ t.collab = s.collab) := by
  rw [stepEdge, hd]
  obtain ⟨t, he, hseq, hled, hrest, hcollab⟩ := clockEdge_tone hread w (if s.pins.toneReady then q else s.seq)
  refine ⟨t, he, hled, hrest, fun hready => ?_, fun hready => ?_⟩ <;>
  · rw [hseq, hcollab, Collab.toned, hready]
    exact ⟨rfl, rfl⟩

/-- What a tone step shows on its port, and its edge. -/
theorem tone_step {u : StepCode} {f d : BitVec 16} {v : BitVec 8} {s : State}
    (hd : stepDrives u s = { tone := some (toneWord f d v) }) (q : Seq) :
    (s.clientWord = none → s.seq.upc = u →
      s.toneValid = true ∧ s.toneFreq = f ∧ s.toneDur = d ∧ s.toneVol = v) ∧
    (s.led.readsInRange s.cfg = true →
      ∃ t, stepEdge u s.pins.toneReady q s = .next t ∧ NoLedCommand s t ∧ EdgeRest 0b00 s t ∧
        (s.pins.toneReady = true → t.seq = q ∧
          t.collab = { s.collab with toneLast := some (toneWord f d v), toneDone := s.collab.toneDone + 1 }) ∧
        (s.pins.toneReady = false → t.seq = s.seq ∧ t.collab = s.collab)) := by
  refine ⟨fun hword hu => State.tone_fields ?_, fun hread => stepEdge_tone hd hread q⟩
  rw [State.tonePort_of_none hword, hu]
  exact congrArg Drives.tone hd

/-- Settles O47: each of the five steps drives its request and completes at the transfer; the port is silent in
every other step, and a waiting step holds what the port depends on. -/
theorem toneStepsCompleteAtTransfer : Obligations.ToneStepsCompleteAtTransfer := by
  unfold Obligations.ToneStepsCompleteAtTransfer
  refine ⟨fun s i u freq dur vol next hmem => ?_, fun s hword hu => ?_, fun s => State.tone_silent,
    fun s t hs ht hr hstep hvalid hready => ?_⟩
  · simp only [List.mem_cons, Prod.mk.injEq, List.not_mem_nil, or_false] at hmem
    rcases hmem with ⟨rfl, rfl, rfl, rfl, rfl, rfl⟩ | ⟨rfl, rfl, rfl, rfl, rfl, rfl⟩ |
      ⟨rfl, rfl, rfl, rfl, rfl, rfl⟩ | ⟨rfl, rfl, rfl, rfl, rfl, rfl⟩ | ⟨rfl, rfl, rfl, rfl, rfl, rfl⟩ <;>
    exact ⟨rfl, tone_step rfl _⟩
  · rw [State.toneValid, State.tonePort_of_none hword, toneDrive_eq_none hu]
    rfl
  · rw [State.toneValid, State.tonePort_of_none hs] at hvalid
    obtain ⟨hseq, hcfg⟩ := step_waits hs hr (.inr (.inl ⟨hvalid, hready⟩)) hstep
    have hport : t.tonePort = s.tonePort := by
      rw [State.tonePort_of_none ht, State.tonePort_of_none hs, hseq, toneDrive_congr hcfg]
    simp only [State.toneValid, State.toneFreq, State.toneDur, State.toneVol, hport, and_true]
    rwa [State.tonePort_of_none hs]

/-! ## The display port -/

/-- A request on the display port shows its two fields. -/
theorem State.disp_fields {s : State} {c : BitVec 4} {n : BitVec 16} (h : s.dispPort = some (dispWord c n)) :
    s.dispValid = true ∧ s.dispScreen = c ∧ s.dispScore = n := by
  obtain ⟨hc, hn⟩ := dispWord_fields c n
  rw [State.dispValid, State.dispScreen, State.dispScore, h, Option.getD_some]
  exact ⟨rfl, hc, hn⟩

theorem State.disp_silent {s : State} (h : s.dispValid = false) : s.dispScreen = 0 ∧ s.dispScore = 0 := by
  have hport : s.dispPort = none := Option.not_isSome_iff_eq_none.mp (Bool.eq_false_iff.mp h)
  rw [State.dispScreen, State.dispScore, hport]
  decide

/-- A step that presents a display request completes at its transfer. -/
theorem stepEdge_disp {u : StepCode} {w : DispWord} {s : State} (hd : stepDrives u s = { disp := some w })
    (hread : s.led.readsInRange s.cfg = true) (q : Seq) :
    ∃ t, stepEdge u s.pins.dispReady q s = .next t ∧ NoLedCommand s t ∧ EdgeRest 0b00 s t ∧
      (s.pins.dispReady = true → t.seq = q ∧
        t.collab = { s.collab with dispLast := some w, dispDone := s.collab.dispDone + 1 }) ∧
      (s.pins.dispReady = false → t.seq = s.seq ∧ t.collab = s.collab) := by
  rw [stepEdge, hd]
  obtain ⟨t, he, hseq, hled, hrest, hcollab⟩ := clockEdge_disp hread w (if s.pins.dispReady then q else s.seq)
  refine ⟨t, he, hled, hrest, fun hready => ?_, fun hready => ?_⟩ <;>
  · rw [hseq, hcollab, Collab.displayed, hready]
    exact ⟨rfl, rfl⟩

/-- What a display step shows on its port, and its edge. -/
theorem disp_step {u : StepCode} {c : BitVec 4} {n : BitVec 16} {s : State}
    (hd : stepDrives u s = { disp := some (dispWord c n) }) (q : Seq) :
    (s.clientWord = none → s.seq.upc = u → s.dispValid = true ∧ s.dispScreen = c ∧ s.dispScore = n) ∧
    (s.led.readsInRange s.cfg = true →
      ∃ t, stepEdge u s.pins.dispReady q s = .next t ∧ NoLedCommand s t ∧ EdgeRest 0b00 s t ∧
        (s.pins.dispReady = true → t.seq = q ∧
          t.collab = { s.collab with dispLast := some (dispWord c n), dispDone := s.collab.dispDone + 1 }) ∧
        (s.pins.dispReady = false → t.seq = s.seq ∧ t.collab = s.collab)) := by
  refine ⟨fun hword hu => State.disp_fields ?_, fun hread => stepEdge_disp hd hread q⟩
  rw [State.dispPort_of_none hword, hu]
  exact congrArg Drives.disp hd

/-- Settles O36: each of the three steps drives its screen and completes at the transfer; the port is silent in
every other step, and a waiting step holds what the port depends on. -/
theorem displayStepsCompleteAtTransfer : Obligations.DisplayStepsCompleteAtTransfer := by
  unfold Obligations.DisplayStepsCompleteAtTransfer
  refine ⟨fun s => ?_, fun s hword hu => ?_, fun s => State.disp_silent,
    fun s t hs ht hr hstep hvalid hready => ?_⟩
  · intro verdict i u screen done hmem
    simp only [List.mem_cons, Prod.mk.injEq, List.not_mem_nil, or_false] at hmem
    rcases hmem with ⟨rfl, rfl, rfl, rfl⟩ | ⟨rfl, rfl, rfl, rfl⟩ | ⟨rfl, rfl, rfl, rfl⟩ <;>
    exact ⟨rfl, disp_step rfl _⟩
  · rw [State.dispValid, State.dispPort_of_none hword, dispDrive_eq_none hu]
    rfl
  · rw [State.dispValid, State.dispPort_of_none hs] at hvalid
    obtain ⟨hseq, hcfg⟩ := step_waits hs hr (.inr (.inr ⟨hvalid, hready⟩)) hstep
    have hport : t.dispPort = s.dispPort := by
      rw [State.dispPort_of_none ht, State.dispPort_of_none hs, hseq, dispDrive_congr hseq]
    simp only [State.dispValid, State.dispScreen, State.dispScore, hport, and_true]
    rwa [State.dispPort_of_none hs]

end Sys2Proof.Machine
end

section
/-! The status words (10_state.md R56, R57): a field of a word put together from its fields. -/

namespace Sys2Proof.Machine

/-- The top-level state of each range of `upc` (30_encoding.md R106). -/
theorem stateOf_ranges (u : StepCode) :
    (u.toNat ≤ 1 → stateOf u = 0) ∧ (2 ≤ u.toNat → u.toNat ≤ 4 → stateOf u = 1) ∧
    (5 ≤ u.toNat → u.toNat ≤ 14 → stateOf u = 2) ∧ (15 ≤ u.toNat → u.toNat ≤ 25 → stateOf u = 3) ∧
    (26 ≤ u.toNat → u.toNat ≤ 35 → stateOf u = 4) ∧ (36 ≤ u.toNat → u.toNat ≤ 38 → stateOf u = 5) ∧
    (39 ≤ u.toNat → stateOf u = 7) := by
  revert u
  decide

/-! ## A word as a number -/

theorem extractLsb'_of_toNat {w n k : Nat} {x : BitVec w} {v : BitVec n} (h : x.toNat / 2 ^ k % 2 ^ n = v.toNat) :
    x.extractLsb' k n = v := by
  apply BitVec.eq_of_toNat_eq
  rw [BitVec.extractLsb'_toNat, Nat.shiftRight_eq_div_pow, h]

theorem getLsbD_of_toNat {w k : Nat} {x : BitVec w} {b : Bool} (h : x.toNat / 2 ^ k % 2 = b.toNat) :
    x.getLsbD k = b := by
  rw [BitVec.getLsbD, Nat.testBit_eq_decide_div_mod_eq, h]
  cases b <;> rfl

/-- `STATUS0` as a number: each field times the weight of its lowest bit. -/
theorem State.status0_toNat (s : State) :
    s.status0.toNat =
      (colourCode s.seq.slot).toNat * 2 ^ 29 + (lineLevel s.cfg s.latch.syB).toNat * 2 ^ 28 +
      (lineLevel s.cfg s.latch.syA).toNat * 2 ^ 27 + s.latch.heldB.toNat * 2 ^ 26 +
      s.latch.heldA.toNat * 2 ^ 25 + s.latch.chord.toNat * 2 ^ 24 + s.latch.flagB.toNat * 2 ^ 23 +
      s.latch.flagA.toNat * 2 ^ 22 + s.led.isFatal.toNat * 2 ^ 21 + s.led.isIdle.toNat * 2 ^ 20 +
      s.led.err.toNat * 2 ^ 16 + (colourCode s.seq.target).toNat * 2 ^ 14 + s.seq.session.toNat * 2 ^ 13 +
      s.seq.round.toNat * 2 ^ 9 + (stateOf s.seq.upc).toNat * 2 ^ 6 + s.seq.upc.toNat := by
  have hzero : (0#1).toNat = 0 := rfl
  unfold State.status0
  iterate 16 rw [toNat_append_add]
  simp only [BitVec.toNat_ofBool, hzero]
  omega

/-- The fields of `STATUS0` at their bits: below a field's weight stand only the fields to its right. -/
theorem State.status0_fields (s : State) :
    s.status0.extractLsb' 0 6 = s.seq.upc ∧ s.status0.extractLsb' 6 3 = stateOf s.seq.upc ∧
    s.status0.extractLsb' 9 4 = s.seq.round ∧ s.status0.getLsbD 13 = s.seq.session ∧
    s.status0.extractLsb' 14 2 = colourCode s.seq.target ∧ s.status0.extractLsb' 16 4 = s.led.err ∧
    s.status0.getLsbD 20 = s.led.isIdle ∧ s.status0.getLsbD 21 = s.led.isFatal ∧
    s.status0.getLsbD 22 = s.latch.flagA ∧ s.status0.getLsbD 23 = s.latch.flagB ∧
    s.status0.getLsbD 24 = s.latch.chord ∧ s.status0.getLsbD 25 = s.latch.heldA ∧
    s.status0.getLsbD 26 = s.latch.heldB ∧ s.status0.getLsbD 27 = lineLevel s.cfg s.latch.syA ∧
    s.status0.getLsbD 28 = lineLevel s.cfg s.latch.syB ∧
    s.status0.extractLsb' 29 2 = colourCode s.seq.slot ∧ s.status0.getLsbD 31 = false := by
  have hword := s.status0_toNat
  have hslot := (colourCode s.seq.slot).isLt
  have hlvlB := (lineLevel s.cfg s.latch.syB).toNat_le
  have hlvlA := (lineLevel s.cfg s.latch.syA).toNat_le
  have hheldB := s.latch.heldB.toNat_le
  have hheldA := s.latch.heldA.toNat_le
  have hchord := s.latch.chord.toNat_le
  have hflagB := s.latch.flagB.toNat_le
  have hflagA := s.latch.flagA.toNat_le
  have hfatal := s.led.isFatal.toNat_le
  have hidle := s.led.isIdle.toNat_le
  have herr := s.led.err.isLt
  have htarget := (colourCode s.seq.target).isLt
  have hsession := s.seq.session.toNat_le
  have hround := s.seq.round.isLt
  have hstate := (stateOf s.seq.upc).isLt
  have hupc := s.seq.upc.isLt
  refine ⟨extractLsb'_of_toNat ?_, extractLsb'_of_toNat ?_, extractLsb'_of_toNat ?_, getLsbD_of_toNat ?_,
    extractLsb'_of_toNat ?_, extractLsb'_of_toNat ?_, getLsbD_of_toNat ?_, getLsbD_of_toNat ?_,
    getLsbD_of_toNat ?_, getLsbD_of_toNat ?_, getLsbD_of_toNat ?_, getLsbD_of_toNat ?_, getLsbD_of_toNat ?_,
    getLsbD_of_toNat ?_, getLsbD_of_toNat ?_, extractLsb'_of_toNat ?_,
    getLsbD_of_toNat (b := false) (Nat.div_eq_of_lt ?_ ▸ rfl)⟩ <;> omega

/-- Settles O51: the statement's fields are those of the two words, with the ranges of `stateOf` and the colour
codes written out. -/
theorem statusWordsShowRegisters : Obligations.StatusWordsShowRegisters := by
  unfold Obligations.StatusWordsShowRegisters
  intro s w u code
  have hcode : ∀ k, code k = colourCode k := fun k => by cases k <;> rfl
  obtain ⟨hboot, hidle, hcountdown, hwindow, hresolution, hover, hfatal⟩ := stateOf_ranges s.seq.upc
  obtain ⟨hupc, hstate, hfields⟩ := s.status0_fields
  obtain ⟨hround, hsession, htarget, herr, hfields⟩ := hfields
  obtain ⟨hledIdle, hledFatal, hflagA, hflagB, hchord, hheldA, hheldB, hlvlA, hlvlB, hslot, hzero⟩ := hfields
  rw [hcode, hcode]
  exact ⟨hupc, hstate, hboot, hidle, hcountdown, hwindow, hresolution, hover, hfatal, hround, hsession, htarget,
    herr, hledIdle, hledFatal, hflagA, hflagB, hchord, hheldA, hheldB, hlvlA, hlvlB, hslot, hzero,
    BitVec.extractLsb'_append_eq_right, BitVec.extractLsb'_append_eq_left⟩

end Sys2Proof.Machine
end
